-- ==== Sys2Proof/Word.lean ====
section
/-! DEFINITION. The data words of the LMC block: bytes and the fixed byte arrays the spec names (10_state.md R17, R20;
20_memory.md R35). Every value is unsigned (00_scope.md R10). -/

namespace Sys2Proof

/-- Eight bits, bit 7 the most significant (00_scope.md R10). -/
abbrev Byte := BitVec 8

/-- A glyph layer `L[0..7]`: byte `r` is row `r` (20_memory.md R35). -/
abbrev Layer := Vector Byte 8

/-- A frame `f[0..5]` in receive order (20_memory.md R31). -/
abbrev Frame := Vector Byte 6

/-- The 16 data bytes of a display write; byte `k` is for actuator RAM address `k` (30_encoding.md R48, R57). -/
abbrev Image := Vector Byte 16

/-- The working display buffer `WB[0..16]` (10_state.md R20). -/
abbrev Buffer := Vector Byte 17

end Sys2Proof
end

