-- ==== Sys2Proof/Config.lean ====
section
/-! DEFINITION. What is fixed for a machine (the parameter table of 00_scope.md R9), the types of its parameters, and the
free values: constants with no body, about which nothing can be proved (log entries 7, 8, 9, 12, 13). -/

namespace Sys2Proof

/-- The eight button flags, in the order of 30_encoding.md R60. -/
inductive Button where
  | left | up | down | right | a | b | startPlus | selectMinus
  deriving DecidableEq, Repr

/-- The two frame bytes that carry buttons: BTN_IDX_A = 4 and BTN_IDX_B = 5 (00_scope.md R9, 41_decoder.md R70). -/
inductive ButtonByte where
  | byte4 | byte5
  deriving DecidableEq, Repr

/-- One entry of BTN_MAP: a byte index and an 8-bit mask (41_decoder.md R70). -/
structure ButtonEntry where
  idx  : ButtonByte
  mask : Byte
  deriving DecidableEq, Repr

/-- The parameter BTN_MAP (41_decoder.md R70): a map gives each flag its entry (ButtonMap.entry). Start and Plus are one
flag, and so are Select and Minus; Down and B have one mask value between them and each its own byte, so a variant in which
they are one bit of one byte is no term of this type (41_decoder.md R71; 93_implementation_defined.md, refuse). -/
structure ButtonMap where
  left        : ButtonEntry
  up          : ButtonEntry
  right       : ButtonEntry
  a           : ButtonEntry
  startPlus   : ButtonEntry
  selectMinus : ButtonEntry
  /-- The mask value that Down and B share (41_decoder.md R71). -/
  downBMask   : Byte
  deriving DecidableEq, Repr

/-- The host's ten glyph layers (44_host_control_loop.md R93). -/
inductive GlyphName where
  | eyeball
  | centerPupil | leftPupil | rightPupil | upPupil | downPupil
  | leftUpPupil | leftDownPupil | rightUpPupil | rightDownPupil
  deriving DecidableEq, Repr

/-- A value of the OPEN parameter GLYPH: the bytes of all ten layers (44_host_control_loop.md R93). -/
structure GlyphSet where
  eyeball        : Layer
  centerPupil    : Layer
  leftPupil      : Layer
  rightPupil     : Layer
  upPupil        : Layer
  downPupil      : Layer
  leftUpPupil    : Layer
  leftDownPupil  : Layer
  rightUpPupil   : Layer
  rightDownPupil : Layer
  deriving DecidableEq, Repr

/-- One item of the OPEN parameter DIAG_SEQ: a diagnostic display write or a delay (44_host_control_loop.md R95 step 8).
A delay has no length: the model has no time (70_reset_and_hazards.md R132). -/
inductive DiagItem where
  | write (d : Image)
  | delay
  deriving DecidableEq, Repr

/-- The OPEN parameter ROW_ORIENT: which physical row buffer row 0 is (00_scope.md R9, 20_memory.md R33). -/
inductive RowOrient where
  | topFirst | bottomFirst
  deriving DecidableEq, Repr

/-- The sensor's answer to a one-byte read (00_scope.md R8, 60_exceptions.md R116). -/
inductive SensorAnswer where
  | byte (b : Byte)
  | empty
  | ioError
  deriving DecidableEq, Repr, Inhabited

namespace Config

/-- OP_OSC_ON (00_scope.md R9). -/
def opOscOn : Byte := 0x21

/-- OP_BRIGHT (00_scope.md R9). -/
def opBright : Byte := 0xE0

/-- OP_BLINK (00_scope.md R9). -/
def opBlink : Byte := 0x80

/-- DISP_ON_BIT (00_scope.md R9). -/
def dispOnBit : Byte := 0x01

/-- DBUF_ADDR, the leading byte of every display write (00_scope.md R9). -/
def dbufAddr : Byte := 0x00

/-- ACK_BYTE (00_scope.md R9). -/
def ackByte : Byte := 0x00

/-- BRIGHT_MAX (00_scope.md R9). -/
def brightMax : Nat := 15

/-- BLINK_MAX (00_scope.md R9). -/
def blinkMax : Nat := 3

/-- FREE VALUE (log 7): the actuator's `n`-th answer where `actuatorTape` gives none; "a draw the model does not choose"
(00_scope.md R11). -/
opaque actuatorAnswer : Nat → Bool

/-- FREE VALUE (log 8): the sensor's answer to a read where `sensorTape` gives none (00_scope.md R8). -/
opaque sensorAnswer : Nat → SensorAnswer

/-- FREE VALUE (log 9): whether an open, an address select or a sensor write of the host succeeds, where `transportTape`
gives no answer (44_host_control_loop.md R94, R103). -/
opaque transportAnswer : Nat → Bool

/-- FREE VALUE (log 12): the OPEN parameter GLYPH where the state gives none. -/
opaque glyph : GlyphName → Layer

/-- FREE VALUE (log 13): the OPEN parameter DIAG_SEQ where the state gives none. -/
opaque diagSeq : List DiagItem

end Config

/-- The bytes a glyph set has for a name. -/
def GlyphSet.layer (g : GlyphSet) : GlyphName → Layer
  | .eyeball => g.eyeball
  | .centerPupil => g.centerPupil
  | .leftPupil => g.leftPupil
  | .rightPupil => g.rightPupil
  | .upPupil => g.upPupil
  | .downPupil => g.downPupil
  | .leftUpPupil => g.leftUpPupil
  | .leftDownPupil => g.leftDownPupil
  | .rightUpPupil => g.rightUpPupil
  | .rightDownPupil => g.rightDownPupil

end Sys2Proof
end

