-- ==== Sys2Proof/Syntax.lean ====
section
/-! DEFINITION. The requests of the LMC request set, version 1 (30_encoding.md R52): one constructor per row of
spec/opcode_table.json, with the operands of the row's format (R48). -/

namespace Sys2Proof

/-- The enumerated colour (30_encoding.md R51). -/
inductive Color where
  | off | green | red | yellow
  deriving DecidableEq, Repr

/-- A request. Every value of every operand is legal (30_encoding.md R50, R54), so no term of this type is ill formed;
what can be ill formed is a byte sequence (WellFormed.lean). -/
inductive Instr where
  /-- NOP, format N (43_display_buffer.md R88). -/
  | nop
  /-- FEED b, format I (40_framer.md R61). -/
  | feed (b : Byte)
  /-- FEED_EMPTY, format N (40_framer.md R62). -/
  | feedEmpty
  /-- FEED_ERROR, format N (40_framer.md R63). -/
  | feedError
  /-- OSC_ON, format N (42_device_control.md R74). -/
  | oscOn
  /-- SET_BRIGHTNESS level, format I (42_device_control.md R75). -/
  | setBrightness (level : Byte)
  /-- SET_BLINK rate, format I (42_device_control.md R76). -/
  | setBlink (rate : Byte)
  /-- CLEAR, format N (43_display_buffer.md R86). -/
  | clear
  /-- RENDER_BEGIN, format N (43_display_buffer.md R79). -/
  | renderBegin
  /-- RENDER_COMMIT, format N (43_display_buffer.md R85). -/
  | renderCommit
  /-- MERGE.OFF L, format M with cc = 0b00 (43_display_buffer.md R81). -/
  | mergeOff (layer : Layer)
  /-- MERGE.G L, format M with cc = 0b01 (43_display_buffer.md R82). -/
  | mergeG (layer : Layer)
  /-- MERGE.R L, format M with cc = 0b10 (43_display_buffer.md R83). -/
  | mergeR (layer : Layer)
  /-- MERGE.Y L, format M with cc = 0b11 (43_display_buffer.md R84). -/
  | mergeY (layer : Layer)
  /-- WRITE_RAW D, format W (43_display_buffer.md R87). -/
  | writeRaw (d : Image)
  deriving DecidableEq, Repr

/-- MERGE in a colour: the variant the colour names (30_encoding.md R51, R52). -/
def Instr.merge (c : Color) (layer : Layer) : Instr :=
  match c with
  | .off => .mergeOff layer
  | .green => .mergeG layer
  | .red => .mergeR layer
  | .yellow => .mergeY layer

/-- The pseudo-instruction `RENDER (L1, c1), ..., (Ln, cn)` (30_encoding.md R56). -/
def renderRequests (layers : List (Layer × Color)) : List Instr :=
  .renderBegin :: (layers.map (fun lc => Instr.merge lc.2 lc.1) ++ [.renderCommit])

/-- The pseudo-instruction `MERGE.c <GLYPH_NAME>` with the glyph table it is read in (30_encoding.md R56). -/
def mergeGlyphRequest (table : GlyphName → Layer) (c : Color) (name : GlyphName) : Instr :=
  Instr.merge c (table name)

/-- The pseudo-instruction `FEED6 b0, ..., b5` (30_encoding.md R56). -/
def feedSixRequests (f : Frame) : List Instr :=
  f.toList.map Instr.feed

end Sys2Proof
end

