-- ==== Sys2Proof/Decode.lean ====
section
/-! DEFINITION. Reading a request from the byte stream and writing one into it (30_encoding.md R48 to R54): the opcode
map, a decoder that is total on any bytes, the encoder, and the word form in which spec/opcode_table.json numbers bits. -/

namespace Sys2Proof

/-- Why no request could be read from the front of a byte stream. -/
inductive DecodeError where
  /-- No byte is present: no request has been presented. -/
  | noRequest
  /-- The opcode byte is not in the opcode map (30_encoding.md R54). -/
  | reserved (op : Byte)
  /-- The opcode byte is listed, but the stream ends before its operands do (log 20). -/
  | incomplete (op : Byte)
  deriving DecidableEq, Repr

/-- A row of the opcode map: a byte belongs to it when its masked bits equal the row's value (30_encoding.md R52). -/
structure OpcodeRow where
  mnemonic : String
  value    : Byte
  mask     : Byte
  /-- Bytes of the whole request, the opcode byte counted (30_encoding.md R48). -/
  length   : Nat
  deriving DecidableEq, Repr

/-- The opcode map (30_encoding.md R52, spec/opcode_table.json). -/
def opcodeMap : List OpcodeRow :=
  [⟨"NOP", 0x00, 0xFF, 1⟩, ⟨"FEED", 0x01, 0xFF, 2⟩, ⟨"FEED_EMPTY", 0x02, 0xFF, 1⟩, ⟨"FEED_ERROR", 0x03, 0xFF, 1⟩,
   ⟨"OSC_ON", 0x10, 0xFF, 1⟩, ⟨"SET_BRIGHTNESS", 0x11, 0xFF, 2⟩, ⟨"SET_BLINK", 0x12, 0xFF, 2⟩,
   ⟨"CLEAR", 0x20, 0xFF, 1⟩, ⟨"RENDER_BEGIN", 0x21, 0xFF, 1⟩, ⟨"RENDER_COMMIT", 0x22, 0xFF, 1⟩] ++
  [⟨"MERGE.OFF", 0x24, 0xFF, 9⟩, ⟨"MERGE.G", 0x25, 0xFF, 9⟩, ⟨"MERGE.R", 0x26, 0xFF, 9⟩, ⟨"MERGE.Y", 0x27, 0xFF, 9⟩,
   ⟨"WRITE_RAW", 0x30, 0xFF, 17⟩]

/-- The row of the opcode map that an opcode byte belongs to, if any. -/
def opcodeRow (op : Byte) : Option OpcodeRow :=
  opcodeMap.find? fun row => op &&& row.mask == row.value

/-- The length of a request from its opcode byte alone; a reserved opcode byte has length 1 (30_encoding.md R49). -/
def requestLength (op : Byte) : Nat :=
  match opcodeRow op with
  | some row => row.length
  | none => 1

/-- The first `n` bytes of a stream as an array, and the stream after them. -/
def takeBytes (n : Nat) (bs : List Byte) : Option (Vector Byte n × List Byte) :=
  if h : n ≤ bs.length then
    some (⟨⟨bs.take n⟩, by simp [List.length_take, Nat.min_eq_left h]⟩, bs.drop n)
  else
    none

/-- The result of reading a request: the request and the stream after it. -/
abbrev DecodeResult := Except DecodeError (Instr × List Byte)

/-- Format I: one operand byte (30_encoding.md R48). -/
def decodeImm (op : Byte) (mk : Byte → Instr) (rest : List Byte) : DecodeResult :=
  match rest with
  | [] => .error (.incomplete op)
  | b :: rest' => .ok (mk b, rest')

/-- Formats M and W: `n` operand bytes (30_encoding.md R48). -/
def decodeBytes (n : Nat) (op : Byte) (mk : Vector Byte n → Instr) (rest : List Byte) : DecodeResult :=
  match takeBytes n rest with
  | none => .error (.incomplete op)
  | some (v, rest') => .ok (mk v, rest')

/-- Read the first request of a byte stream (30_encoding.md R49, R52, R54). -/
def decodeRequest (bs : List Byte) : DecodeResult :=
  match bs with
  | [] => .error .noRequest
  | op :: rest =>
    match op.toNat with
    | 0x00 => .ok (.nop, rest)
    | 0x01 => decodeImm op .feed rest
    | 0x02 => .ok (.feedEmpty, rest)
    | 0x03 => .ok (.feedError, rest)
    | 0x10 => .ok (.oscOn, rest)
    | 0x11 => decodeImm op .setBrightness rest
    | 0x12 => decodeImm op .setBlink rest
    | 0x20 => .ok (.clear, rest)
    | 0x21 => .ok (.renderBegin, rest)
    | 0x22 => .ok (.renderCommit, rest)
    | 0x24 => decodeBytes 8 op .mergeOff rest
    | 0x25 => decodeBytes 8 op .mergeG rest
    | 0x26 => decodeBytes 8 op .mergeR rest
    | 0x27 => decodeBytes 8 op .mergeY rest
    | 0x30 => decodeBytes 16 op .writeRaw rest
    | _ => .error (.reserved op)

/-- The bytes of a request (30_encoding.md R48, R52). -/
def encode : Instr → List Byte
  | .nop => [0x00]
  | .feed b => [0x01, b]
  | .feedEmpty => [0x02]
  | .feedError => [0x03]
  | .oscOn => [0x10]
  | .setBrightness level => [0x11, level]
  | .setBlink rate => [0x12, rate]
  | .clear => [0x20]
  | .renderBegin => [0x21]
  | .renderCommit => [0x22]
  | .mergeOff l => 0x24 :: l.toList
  | .mergeG l => 0x25 :: l.toList
  | .mergeR l => 0x26 :: l.toList
  | .mergeY l => 0x27 :: l.toList
  | .writeRaw d => 0x30 :: d.toList

/-- A byte stream made of requests one after another. -/
def encodeAll (is : List Instr) : List Byte :=
  is.flatMap encode

/-- The most bytes a request has (30_encoding.md R48). -/
def longestRequest : Nat := 17

/-- The bytes of a number, the least significant first: byte `k` is bits `8k+7..8k`, as spec/opcode_table.json numbers
the bits of a request. -/
def wordBytes (n w : Nat) : List Byte :=
  (List.range n).map fun k => BitVec.ofNat 8 (w >>> (8 * k))

/-- The bytes of the request whose bits are `w`, of which the table gives the low `nbits`; the bits above are 0, and the
request is as long as its opcode byte says (30_encoding.md R49). -/
def tableWordRequest (nbits w : Nat) : List Byte :=
  let bytes := wordBytes longestRequest (w % 2 ^ nbits)
  match bytes with
  | [] => []
  | op :: _ => bytes.take (requestLength op)

/-- The request the decoder reads from a word of spec/opcode_table.json. -/
def decodeTableWord (nbits w : Nat) : Option Instr :=
  match decodeRequest (tableWordRequest nbits w) with
  | .ok (i, _) => some i
  | .error _ => none

end Sys2Proof
end

