-- ==== Sys2Proof/Machine/Buttons.lean ====
section
/-! DEFINITION. The Button Decoder (41_decoder.md): a pure function from a frame to the eight button flags. It has no
state and no request of its own (30_encoding.md R53). -/

/-- The entry BTN_MAP has for a flag (41_decoder.md R70). The shared mask of Down and B applies to f[4] for Down and to f[5]
for B (41_decoder.md R71). -/
def Sys2Proof.ButtonMap.entry (m : Sys2Proof.ButtonMap) : Sys2Proof.Button → Sys2Proof.ButtonEntry
  | .left => m.left
  | .up => m.up
  | .down => ⟨.byte4, m.downBMask⟩
  | .right => m.right
  | .a => m.a
  | .b => ⟨.byte5, m.downBMask⟩
  | .startPlus => m.startPlus
  | .selectMinus => m.selectMinus

namespace Sys2Proof.Machine

/-- The eight flags of a frame; a flag is true when it is pressed (30_encoding.md R60). -/
structure ButtonState where
  left        : Bool
  up          : Bool
  down        : Bool
  right       : Bool
  a           : Bool
  b           : Bool
  startPlus   : Bool
  selectMinus : Bool
  deriving DecidableEq, Repr

/-- Whether a flag is pressed. -/
def buttonPressed (st : ButtonState) : Button → Bool
  | .left => st.left
  | .up => st.up
  | .down => st.down
  | .right => st.right
  | .a => st.a
  | .b => st.b
  | .startPlus => st.startPlus
  | .selectMinus => st.selectMinus

/-- The ButtonState as an 8-bit vector: bit 0 Left, then Up, Down, Right, A, B, Start/Plus, and bit 7 Select/Minus
(30_encoding.md R60). -/
def buttonVector (st : ButtonState) : BitVec 8 :=
  BitVec.ofBool st.selectMinus ++ BitVec.ofBool st.startPlus ++ BitVec.ofBool st.b ++ BitVec.ofBool st.a ++
    BitVec.ofBool st.right ++ BitVec.ofBool st.down ++ BitVec.ofBool st.up ++ BitVec.ofBool st.left

/-- `f[idx]` for an index of BTN_MAP: zero-based, 4 or 5 (30_encoding.md R59). -/
def frameButtonByte (f : Frame) : ButtonByte → Byte
  | .byte4 => f[4]
  | .byte5 => f[5]

/-- A flag is pressed when `(~f[idx]) & mask` is not zero (41_decoder.md R67). -/
def flagPressed (e : ButtonEntry) (f : Frame) : Bool :=
  (~~~frameButtonByte f e.idx &&& e.mask) != 0x00

/-- `Decode(f)` under a button map (41_decoder.md R67). -/
def decodeButtons (m : ButtonMap) (f : Frame) : ButtonState where
  left := flagPressed (m.entry .left) f
  up := flagPressed (m.entry .up) f
  down := flagPressed (m.entry .down) f
  right := flagPressed (m.entry .right) f
  a := flagPressed (m.entry .a) f
  b := flagPressed (m.entry .b) f
  startPlus := flagPressed (m.entry .startPlus) f
  selectMinus := flagPressed (m.entry .selectMinus) f

/-- PRESUMED (log 10), unsafe for the real controller: the default BTN_MAP, which the spec itself takes from general
knowledge (41_decoder.md R72). -/
def defaultButtonMap : ButtonMap where
  left := ⟨.byte5, 0x02⟩
  up := ⟨.byte5, 0x01⟩
  right := ⟨.byte4, 0x80⟩
  a := ⟨.byte5, 0x10⟩
  startPlus := ⟨.byte4, 0x04⟩
  selectMinus := ⟨.byte4, 0x10⟩
  downBMask := 0x40

end Sys2Proof.Machine
end

