-- ==== Sys2Proof/Machine/State.lean ====
section
/-! DEFINITION. The state of the system as plain data: the block's state (10_state.md), its step outputs, the parameters a
step reads, the host's context (44_host_control_loop.md), and the model's own inputs. -/

namespace Sys2Proof.Machine

/-- The causes of a fatal fault (60_exceptions.md R106). The code 0x00, NONE, is never raised. -/
inductive Cause where
  | rxIoError | txIoError | seqNotOpen | seqOpen | illegalRequest
  deriving DecidableEq, Repr

/-- A record of TXLOG: the bytes of one bus transfer in transmission order, and the actuator's answer (10_state.md R24). -/
structure TxRecord where
  bytes : List Byte
  ok    : Bool
  deriving DecidableEq, Repr

/-- Where the host's reference program stands: its next action (44_host_control_loop.md R94 to R96). -/
inductive HostPos where
  /-- Init (R94): open each device handle and select each bus address. -/
  | openSensor | openActuator | selectSensor | selectActuator
  /-- Handshake steps 1 to 3 (R95): the sensor writes, and the identify response, of which `got` bytes have come. -/
  | encryptFirst | encryptSecond | identify
  | identifyRead (got : Fin 6)
  /-- Handshake step 4: the acknowledgment byte, then the pause. -/
  | handshakeAck | settle
  /-- Handshake steps 5 to 10: device control, the diagnostic sequence from item `k`, CLEAR, BLINKCTR. -/
  | oscOn | blinkOff | brightMax
  | diag (k : Nat)
  | clear | handshakeDone
  /-- Polling (R96): the read, the look at the step outputs, the render, the acknowledgment, the sleep. -/
  | poll | outputs
  | render (pupil : GlyphName) (color : Color)
  | ack | sleep
  /-- The process has ended on a transport failure (R103). -/
  | exited
  deriving DecidableEq, Repr

/-- A sensor write of the host and whether the transport carried it (30_encoding.md R58). -/
structure SensorWrite where
  bytes : List Byte
  ok    : Bool
  deriving DecidableEq, Repr

/-- The host's context (44_host_control_loop.md R92, R93). -/
structure HostState where
  pos       : HostPos
  /-- BLINKCTR, 2 bits (R92). -/
  blinkCtr  : BitVec 2
  /-- The OPEN parameter GLYPH, where the state gives it (R93, log 12). -/
  glyphs    : Option GlyphSet
  /-- The OPEN parameter DIAG_SEQ, where the state gives it (R95 step 8, log 13). -/
  diagSeq   : Option (List DiagItem)
  /-- The sensor writes made so far, oldest first (R104). -/
  sensorLog : List SensorWrite
  deriving DecidableEq, Repr

/-- The whole state. Every field is plain data. -/
structure State where
  /-- FB[0..5], the frame slots (10_state.md R17). -/
  fb            : Frame
  /-- WIDX, the framer's write index, always 0 to 5 (10_state.md R18). -/
  widx          : Fin 6
  /-- WB[0..16], the working display buffer (10_state.md R20). -/
  wb            : Buffer
  /-- ROPEN, true while a render cycle is open (10_state.md R21). -/
  ropen         : Bool
  /-- FATAL (10_state.md R23). -/
  fatal         : Bool
  /-- CAUSE, 8 bits (10_state.md R23). -/
  cause         : BitVec 8
  /-- TXLOG, oldest record first (10_state.md R24). -/
  txlog         : List TxRecord
  /-- frame_out of the step just made (10_state.md R25, log 2). -/
  frameOut      : Option Frame
  /-- buttons_out of the step just made (10_state.md R25, log 2). -/
  buttonsOut    : Option ButtonState
  /-- The parameter BTN_MAP (41_decoder.md R70, log 10); no step changes it. -/
  btnMap        : ButtonMap
  /-- The host's context. -/
  host          : HostState
  /-- The model's own (log 1): bytes of the requests presented and not yet performed. -/
  reqs          : List Byte
  /-- The model's own (log 7): the actuator's coming answers, where they are known. -/
  actuatorTape  : List Bool
  /-- The model's own (log 8): the sensor's coming answers, where they are known. -/
  sensorTape    : List SensorAnswer
  /-- The model's own (log 9): the transport's coming answers to the host, where they are known. -/
  transportTape : List Bool
  /-- The model's own (log 7): how many free answers have been drawn. -/
  draws         : Nat
  deriving DecidableEq, Repr

/-- Why the machine has no step. -/
inductive Fault where
  /-- Raised by every request, and by `step`, while FATAL = 1: "the block has no step" (60_exceptions.md R110). Safe: the
  spec gives no step there. -/
  | halted
  /-- Raised by `step` when the host's process has ended on a transport failure of its own and no request is pending
  (44_host_control_loop.md R103). Safe: the spec ends the run there. -/
  | hostExited
  deriving DecidableEq, Repr

/-- What the model gives no meaning to. -/
inductive Refusal where
  /-- Raised by an arm of `exec` whose request has no meaning yet. Safe. -/
  | notModelled (mnemonic : String)
  /-- Raised by `step` when the presented bytes end inside a request (log 20): the spec gives a request no effect before
  it is whole (30_encoding.md R48). Safe. -/
  | incompleteRequest
  deriving DecidableEq, Repr

/-- The answer of one step. -/
abbrev Result := Host.Outcome State Fault Refusal

/-- The host at process start: before Init (44_host_control_loop.md R91). BLINKCTR is DESIGN CHOICE 0 here (log 22). -/
def hostReset : HostState where
  pos := .openSensor
  blinkCtr := 0
  glyphs := none
  diagSeq := none
  sensorLog := []

/-- The state right after reset (10_state.md R30, 70_reset_and_hazards.md R120). FB and WB are unspecified there and hold
zeros here: DESIGN CHOICE (log 3, 4). BTN_MAP is the spec's default (log 10). -/
def State.reset : State where
  fb := Vector.replicate 6 0
  widx := 0
  wb := Vector.replicate 17 0
  ropen := false
  fatal := false
  cause := 0x00
  txlog := []
  frameOut := none
  buttonsOut := none
  btnMap := defaultButtonMap
  host := hostReset
  reqs := []
  actuatorTape := []
  sensorTape := []
  transportTape := []
  draws := 0

end Sys2Proof.Machine
end

