-- ==== Sys2Proof/Machine/Flags.lean ====
section
/-! DEFINITION. The single-bit state and what is computed from it: the sequencing check of ROPEN (60_exceptions.md R107),
the cause codes (R106) and the STATUS word (10_state.md R26). The block has no condition codes (10_state.md R16). -/

namespace Sys2Proof.Machine

/-- The code written to CAUSE (60_exceptions.md R106). -/
def causeCode : Cause → BitVec 8
  | .rxIoError => 0x01
  | .txIoError => 0x02
  | .seqNotOpen => 0x03
  | .seqOpen => 0x04
  | .illegalRequest => 0x05

/-- What a request needs of ROPEN (60_exceptions.md R107). -/
inductive Need where
  | either | opened | closed
  deriving DecidableEq, Repr

/-- The sequencing check: the cause raised when ROPEN is not as needed (60_exceptions.md R107). -/
def sequencingFault (n : Need) (ropen : Bool) : Option Cause :=
  match n, ropen with
  | .either, _ => none
  | .opened, true => none
  | .opened, false => some .seqNotOpen
  | .closed, true => some .seqOpen
  | .closed, false => none

/-- The STATUS output: FATAL in bit 15, ROPEN in bit 14, zeros in bits 13..11, WIDX in bits 10..8, CAUSE in bits 7..0
(10_state.md R26). Reading it has no effect. -/
def status (s : State) : BitVec 16 :=
  BitVec.ofBool s.fatal ++ BitVec.ofBool s.ropen ++ (0 : BitVec 3) ++ BitVec.ofNat 3 s.widx.val ++ s.cause

end Sys2Proof.Machine
end

