-- ==== Sys2Proof/Machine/Operands.lean ====
section
/-! DEFINITION. Operand forms: the colour codes, the offsets of the display buffer, the reductions of level and rate, and
the bytes of every transfer (20_memory.md R34; 30_encoding.md R50, R51, R57). -/

namespace Sys2Proof.Machine

/-- The 2-bit code of a colour (30_encoding.md R51). -/
def colorCode : Color → BitVec 2
  | .off => 0b00
  | .green => 0b01
  | .red => 0b10
  | .yellow => 0b11

/-- Bit 0 of the code selects the green plane (30_encoding.md R51). -/
def selectsGreen (c : Color) : Bool :=
  (colorCode c).getLsbD 0

/-- Bit 1 of the code selects the red plane (30_encoding.md R51). -/
def selectsRed (c : Color) : Bool :=
  (colorCode c).getLsbD 1

/-- The colour whose planes are the given ones (30_encoding.md R51). -/
def colorOfPlanes (green red : Bool) : Color :=
  match green, red with
  | false, false => .off
  | true, false => .green
  | false, true => .red
  | true, true => .yellow

/-- The offset of row `r`'s green plane (20_memory.md R34). -/
def greenOffset (r : Fin 8) : Fin 17 :=
  ⟨1 + 2 * r.val, by omega⟩

/-- The offset of row `r`'s red plane (20_memory.md R34). -/
def redOffset (r : Fin 8) : Fin 17 :=
  ⟨2 + 2 * r.val, by omega⟩

/-- Whether a colour selects the plane that offset `k` belongs to: none at offset 0, green at the odd offsets, red at the
other even ones (20_memory.md R34, 30_encoding.md R51). -/
def selectsOffset (c : Color) (k : Fin 17) : Bool :=
  if k.val = 0 then false else if k.val % 2 = 1 then selectsGreen c else selectsRed c

/-- The row that offset `k` of the planes belongs to (20_memory.md R34); offset 0 belongs to none and is not asked. -/
def offsetRow (k : Fin 17) : Fin 8 :=
  ⟨(k.val - 1) / 2, by omega⟩

/-- `MergeLayer(WB, L, cc)`: OR each row byte into the planes the colour selects; offset 0 is never touched
(43_display_buffer.md R78). -/
def mergeLayer (wb : Buffer) (layer : Layer) (c : Color) : Buffer :=
  Vector.ofFn fun k => if selectsOffset c k then wb[k] ||| layer[offsetRow k] else wb[k]

/-- `min(level, 15)` (42_device_control.md R75). -/
def reduceLevel (level : Byte) : Byte :=
  if level.toNat ≤ Config.brightMax then level else 15

/-- A rate above 3 fails safe to 0, off (42_device_control.md R76; 90_conflicts.md C1). -/
def reduceRate (rate : Byte) : Byte :=
  if rate.toNat ≤ Config.blinkMax then rate else 0

/-- The oscillator-on transfer (30_encoding.md R57). -/
def oscOnTransfer : List Byte :=
  [Config.opOscOn]

/-- The brightness transfer `[0xE0 | l]` (42_device_control.md R75). -/
def brightnessTransfer (level : Byte) : List Byte :=
  [Config.opBright ||| reduceLevel level]

/-- The blink transfer `[0x80 | 0x01 | (r << 1)]` (42_device_control.md R76). -/
def blinkTransfer (rate : Byte) : List Byte :=
  [Config.opBlink ||| Config.dispOnBit ||| (reduceRate rate <<< 1)]

/-- A display write: the address byte and then 16 data bytes (30_encoding.md R57). -/
def displayTransfer (d : Image) : List Byte :=
  Config.dbufAddr :: d.toList

/-- The transfer of CLEAR: seventeen zero bytes (43_display_buffer.md R86). -/
def clearTransfer : List Byte :=
  List.replicate 17 0x00

/-- The transfer of RENDER_COMMIT: WB[0] first, WB[16] last (20_memory.md R32). -/
def bufferTransfer (wb : Buffer) : List Byte :=
  wb.toList

end Sys2Proof.Machine
end

