-- ==== Sys2Proof/Machine/Ops.lean ====
section
/-! DEFINITION. The operations the requests share: the primitives `Emit`, `Out` and `raise Fatal` (00_scope.md R11), the
order of the checks (60_exceptions.md R108), and taking the next request from the stream. -/

namespace Sys2Proof.Machine

/-- No step outputs: they are empty unless a rule says otherwise (00_scope.md R11, 10_state.md R25). -/
def clearOutputs (s : State) : State :=
  { s with frameOut := none, buttonsOut := none }

/-- `Out(frame, buttons)` (00_scope.md R11). -/
def putOutputs (f : Frame) (st : ButtonState) (s : State) : State :=
  { s with frameOut := some f, buttonsOut := some st }

/-- `raise Fatal(cause)`, a next state (log 6): FATAL and CAUSE are written, the step's outputs are empty, and nothing else changes
(60_exceptions.md R109). There is no return from it: only reset clears FATAL (R110, R111). -/
def raiseFatal (c : Cause) (s : State) : State :=
  { s with fatal := true, cause := causeCode c, frameOut := none, buttonsOut := none }

/-- The actuator's answer to the next transfer: the next one known, else a free value (log 7). -/
def actuatorAnswer (s : State) : Bool :=
  match s.actuatorTape with
  | ok :: _ => ok
  | [] => Config.actuatorAnswer s.draws

/-- The state after the actuator's answer has been taken (log 7). -/
def actuatorDrawn (s : State) : State :=
  match s.actuatorTape with
  | _ :: tape => { s with actuatorTape := tape }
  | [] => { s with draws := s.draws + 1 }

/-- `Emit(seq)`: one bus transfer; its record, with the actuator's answer, joins TXLOG (00_scope.md R11). -/
def emit (seq : List Byte) (s : State) : State :=
  { actuatorDrawn s with txlog := s.txlog ++ [⟨seq, actuatorAnswer s⟩] }

/-- `ok <- Emit(seq); if not ok then raise Fatal(TX_IO_ERROR)`, and then the rest of the request. -/
def transfer (seq : List Byte) (rest : State → State) (s : State) : State :=
  if actuatorAnswer s then rest (emit seq s) else raiseFatal .txIoError (emit seq s)

/-- A request in the order of 60_exceptions.md R108: no step while FATAL = 1, then the sequencing check, then the
request's own action on a state with empty outputs. -/
def perform (need : Need) (act : State → State) (s : State) : Result :=
  if s.fatal then .fault .halted
  else
    match sequencingFault need s.ropen with
    | some c => .next (raiseFatal c s)
    | none => .next (act (clearOutputs s))

/-- FEED's action (40_framer.md R61). -/
def feedByte (b : Byte) (s : State) : State :=
  let fb := s.fb.set s.widx.val b
  if s.widx = 5 then putOutputs fb (decodeButtons s.btnMap fb) { s with fb := fb, widx := 0 }
  else { s with fb := fb, widx := s.widx + 1 }

/-- The action of every MERGE: MergeLayer on WB (43_display_buffer.md R80). -/
def mergeInto (layer : Layer) (c : Color) (s : State) : State :=
  { s with wb := mergeLayer s.wb layer c }

/-- RENDER_BEGIN's action (43_display_buffer.md R79). -/
def openRender (s : State) : State :=
  { s with wb := Vector.replicate 17 0x00, ropen := true }

/-- What RENDER_COMMIT does after its transfer (43_display_buffer.md R85). -/
def closeRender (s : State) : State :=
  { s with ropen := false }

/-- The stream of presented requests after the first one has been taken from it. -/
def withRequests (rest : List Byte) (s : State) : State :=
  { s with reqs := rest }

/-- A reserved opcode byte, which has length 1: raise ILLEGAL_REQUEST and nothing else (30_encoding.md R49, R54). -/
def illegalRequest (s : State) : State :=
  raiseFatal .illegalRequest (withRequests s.reqs.tail s)

/-- Requests presented after those already pending (00_scope.md R12: in the order presented). -/
def present (is : List Instr) (s : State) : State :=
  { s with reqs := s.reqs ++ encodeAll is }

end Sys2Proof.Machine
end

