-- ==== Sys2Proof/Machine/Control.lean ====
section
/-! DEFINITION. The device control requests (42_device_control.md): one command byte to the actuator each, and the block
keeps no copy of what they set (10_state.md R22). -/

namespace Sys2Proof.Machine

/-- OSC_ON (42_device_control.md R74). -/
def execOscOn (s : State) : Result :=
  perform .closed (transfer oscOnTransfer fun t => t) s

/-- SET_BRIGHTNESS level (42_device_control.md R75). -/
def execSetBrightness (level : Byte) (s : State) : Result :=
  perform .closed (transfer (brightnessTransfer level) fun t => t) s

/-- SET_BLINK rate (42_device_control.md R76). -/
def execSetBlink (rate : Byte) (s : State) : Result :=
  perform .closed (transfer (blinkTransfer rate) fun t => t) s

end Sys2Proof.Machine
end

