-- ==== Sys2Proof/Machine/Display.lean ====
section
/-! DEFINITION. The display buffer requests and NOP (43_display_buffer.md). -/

namespace Sys2Proof.Machine

/-- NOP: no state change, whatever ROPEN is (43_display_buffer.md R88). -/
def execNop (s : State) : Result :=
  perform .either (fun t => t) s

/-- CLEAR: an all-zero image; WB and ROPEN are unchanged (43_display_buffer.md R86). -/
def execClear (s : State) : Result :=
  perform .closed (transfer clearTransfer fun t => t) s

/-- RENDER_BEGIN (43_display_buffer.md R79). -/
def execRenderBegin (s : State) : Result :=
  perform .closed openRender s

/-- RENDER_COMMIT: WB in one transfer, then ROPEN <- 0 (43_display_buffer.md R85). -/
def execRenderCommit (s : State) : Result :=
  perform .opened (fun t => transfer (bufferTransfer t.wb) closeRender t) s

/-- MERGE.OFF L (43_display_buffer.md R81). -/
def execMergeOff (layer : Layer) (s : State) : Result :=
  perform .opened (mergeInto layer .off) s

/-- MERGE.G L (43_display_buffer.md R82). -/
def execMergeG (layer : Layer) (s : State) : Result :=
  perform .opened (mergeInto layer .green) s

/-- MERGE.R L (43_display_buffer.md R83). -/
def execMergeR (layer : Layer) (s : State) : Result :=
  perform .opened (mergeInto layer .red) s

/-- MERGE.Y L (43_display_buffer.md R84). -/
def execMergeY (layer : Layer) (s : State) : Result :=
  perform .opened (mergeInto layer .yellow) s

/-- WRITE_RAW D: the address byte and the 16 bytes in one transfer; WB and ROPEN are unchanged
(43_display_buffer.md R87). -/
def execWriteRaw (d : Image) (s : State) : Result :=
  perform .closed (transfer (displayTransfer d) fun t => t) s

end Sys2Proof.Machine
end

