-- ==== Sys2Proof/Machine/Framer.lean ====
section
/-! DEFINITION. The Packet Framer's requests (40_framer.md). They are legal whether or not a render is open. -/

namespace Sys2Proof.Machine

/-- FEED b (40_framer.md R61). -/
def execFeed (b : Byte) (s : State) : Result :=
  perform .either (feedByte b) s

/-- FEED_EMPTY: no state change (40_framer.md R62). -/
def execFeedEmpty (s : State) : Result :=
  perform .either (fun t => t) s

/-- FEED_ERROR: raise Fatal(RX_IO_ERROR) (40_framer.md R63). -/
def execFeedError (s : State) : Result :=
  perform .either (raiseFatal .rxIoError) s

end Sys2Proof.Machine
end

