-- ==== Sys2Proof/Machine/Dispatch.lean ====
section
/-! DEFINITION. One arm per request of the opcode map (30_encoding.md R52), each one call of that request's meaning. -/

namespace Sys2Proof.Machine

def exec (i : Instr) (s : State) : Host.Outcome State Fault Refusal :=
  match i with
  | .nop => Sys2Proof.Machine.execNop s
  | .feed b => Sys2Proof.Machine.execFeed b s
  | .feedEmpty => Sys2Proof.Machine.execFeedEmpty s
  | .feedError => Sys2Proof.Machine.execFeedError s
  | .oscOn => Sys2Proof.Machine.execOscOn s
  | .setBrightness level => Sys2Proof.Machine.execSetBrightness level s
  | .setBlink rate => Sys2Proof.Machine.execSetBlink rate s
  | .clear => Sys2Proof.Machine.execClear s
  | .renderBegin => Sys2Proof.Machine.execRenderBegin s
  | .renderCommit => Sys2Proof.Machine.execRenderCommit s
  | .mergeOff layer => Sys2Proof.Machine.execMergeOff layer s
  | .mergeG layer => Sys2Proof.Machine.execMergeG layer s
  | .mergeR layer => Sys2Proof.Machine.execMergeR layer s
  | .mergeY layer => Sys2Proof.Machine.execMergeY layer s
  | .writeRaw d => Sys2Proof.Machine.execWriteRaw d s

end Sys2Proof.Machine
end

