-- ==== Sys2Proof/Machine/HostLoop.lean ====
section
/-! DEFINITION. The host's reference program (44_host_control_loop.md): Init, Handshake and Polling, one action at a time.
These rules bind the host, not the block (00_scope.md R6); the host acts when no request is pending (log 16, 17). -/

namespace Sys2Proof.Machine

/-- The phases of the host (44_host_control_loop.md R91); `ended` is the fatal end of R103. -/
inductive HostPhase where
  | init | handshake | polling | ended
  deriving DecidableEq, Repr

/-- The phase a position belongs to (44_host_control_loop.md R94 to R96). -/
def hostPhase : HostPos → HostPhase
  | .openSensor | .openActuator | .selectSensor | .selectActuator => .init
  | .encryptFirst | .encryptSecond | .identify | .identifyRead _ => .handshake
  | .handshakeAck | .settle | .oscOn | .blinkOff | .brightMax | .diag _ | .clear | .handshakeDone => .handshake
  | .poll | .outputs | .render _ _ | .ack | .sleep => .polling
  | .exited => .ended

/-- The host's next position. -/
def hostAt (p : HostPos) (s : State) : State :=
  { s with host := { s.host with pos := p } }

/-- The transport's answer to the host: the next one known, else a free value (log 9). -/
def transportAnswer (s : State) : Bool :=
  match s.transportTape with
  | ok :: _ => ok
  | [] => Config.transportAnswer s.draws

/-- The state after the transport's answer has been taken (log 9). -/
def transportDrawn (s : State) : State :=
  match s.transportTape with
  | _ :: tape => { s with transportTape := tape }
  | [] => { s with draws := s.draws + 1 }

/-- The sensor's answer to a one-byte read: the next one known, else a free value (log 8). -/
def sensorAnswer (s : State) : SensorAnswer :=
  match s.sensorTape with
  | a :: _ => a
  | [] => Config.sensorAnswer s.draws

/-- The state after the sensor's answer has been taken (log 8). -/
def sensorDrawn (s : State) : State :=
  match s.sensorTape with
  | _ :: tape => { s with sensorTape := tape }
  | [] => { s with draws := s.draws + 1 }

/-- Where the host goes after a transport operation: on failure the process ends (44_host_control_loop.md R103). -/
def afterTransport (ok : Bool) (next : HostPos) : HostPos :=
  if ok then next else .exited

/-- An open or an address select of Init (44_host_control_loop.md R94). -/
def hostOperation (next : HostPos) (s : State) : State :=
  hostAt (afterTransport (transportAnswer s) next) (transportDrawn s)

/-- A sensor write joins the host's log with the transport's answer (44_host_control_loop.md R104). -/
def logSensorWrite (bytes : List Byte) (ok : Bool) (s : State) : State :=
  { s with host := { s.host with sensorLog := s.host.sensorLog ++ [⟨bytes, ok⟩] } }

/-- A sensor write of the host (30_encoding.md R58). -/
def sensorWrite (bytes : List Byte) (next : HostPos) (s : State) : State :=
  hostAt (afterTransport (transportAnswer s) next) (logSensorWrite bytes (transportAnswer s) (transportDrawn s))

/-- The host presents requests to the block and goes on when they have been performed (log 16). -/
def issue (is : List Instr) (next : HostPos) (s : State) : State :=
  hostAt next (present is s)

/-- A glyph layer's bytes: those the state gives, else the free value (log 12). -/
def glyphLayer (s : State) (name : GlyphName) : Layer :=
  match s.host.glyphs with
  | some g => g.layer name
  | none => Config.glyph name

/-- DIAG_SEQ: the sequence the state gives, else the free value (log 13). -/
def diagSequence (s : State) : List DiagItem :=
  match s.host.diagSeq with
  | some items => items
  | none => Config.diagSeq

/-- OUTLINE_COLOR (44_host_control_loop.md R99). -/
def outlineColor : Color :=
  .green

/-- SelectPupil: the first pupil whose condition holds (44_host_control_loop.md R97). -/
def selectPupil (btn : ButtonState) : GlyphName :=
  if btn.left && btn.up then .leftUpPupil
  else if btn.left && btn.down then .leftDownPupil
  else if btn.right && btn.up then .rightUpPupil
  else if btn.right && btn.down then .rightDownPupil
  else if btn.left then .leftPupil
  else if btn.right then .rightPupil
  else if btn.up then .upPupil
  else if btn.down then .downPupil
  else .centerPupil

/-- SelectColor (44_host_control_loop.md R98). -/
def selectColor (btn : ButtonState) : Color :=
  if btn.startPlus then .off
  else if btn.a then .green
  else if btn.b then .yellow
  else .red

/-- The requests of one frame's render: the outline first, the pupil second (44_host_control_loop.md R96, R99). -/
def frameRender (s : State) (pupil : GlyphName) (c : Color) : List Instr :=
  renderRequests [(glyphLayer s .eyeball, outlineColor), (glyphLayer s pupil, c)]

/-- One read of the identify response: its bytes are not fed to the block, and an empty read is read again
(44_host_control_loop.md R95 step 3, log 18). -/
def identifyByte (got : Fin 6) (s : State) : State :=
  match sensorAnswer s with
  | .byte _ => hostAt (if got = 5 then .handshakeAck else .identifyRead (got + 1)) (sensorDrawn s)
  | .empty => hostAt (.identifyRead got) (sensorDrawn s)
  | .ioError => hostAt .exited (sensorDrawn s)

/-- One item of the diagnostic sequence; after the last one, CLEAR (44_host_control_loop.md R95 steps 8 and 9). -/
def diagAction (k : Nat) (s : State) : State :=
  match (diagSequence s)[k]? with
  | some (.write d) => issue [.writeRaw d] (.diag (k + 1)) s
  | some .delay => hostAt (.diag (k + 1)) s
  | none => hostAt .clear s

/-- The read that begins an iteration, turned into a request (44_host_control_loop.md R96). -/
def pollSensor (s : State) : State :=
  match sensorAnswer s with
  | .byte b => issue [.feed b] .outputs (sensorDrawn s)
  | .empty => issue [.feedEmpty] .outputs (sensorDrawn s)
  | .ioError => issue [.feedError] .outputs (sensorDrawn s)

/-- BLINKCTR <- (BLINKCTR + 1) mod 4 (44_host_control_loop.md R100). -/
def advanceBlink (s : State) : State :=
  { s with host := { s.host with blinkCtr := s.host.blinkCtr + 1 } }

/-- With Select/Minus pressed: advance BLINKCTR and issue SET_BLINK with its new value (44_host_control_loop.md R100). -/
def blinkOnSelect (btn : ButtonState) (s : State) : State :=
  if btn.selectMinus then present [.setBlink ((s.host.blinkCtr + 1).setWidth 8)] (advanceBlink s) else s

/-- After the request of a read has been performed: on a completed frame, the selections and the blink request, and then
the render; otherwise the sleep (44_host_control_loop.md R96). -/
def lookAtOutputs (s : State) : State :=
  match s.frameOut, s.buttonsOut with
  | some _, some btn => hostAt (.render (selectPupil btn) (selectColor btn)) (blinkOnSelect btn s)
  | _, _ => hostAt .sleep s

/-- The action at each position of the reference program (44_host_control_loop.md R94, R95, R96). -/
def hostAction (p : HostPos) (s : State) : State :=
  match p with
  | .openSensor => hostOperation .openActuator s
  | .openActuator => hostOperation .selectSensor s
  | .selectSensor => hostOperation .selectActuator s
  | .selectActuator => hostOperation .encryptFirst s
  | .encryptFirst => sensorWrite [0xF0, 0x55] .encryptSecond s
  | .encryptSecond => sensorWrite [0xFB, 0x00] .identify s
  | .identify => sensorWrite [0xFA, 0x00] (.identifyRead 0) s
  | .identifyRead got => identifyByte got s
  | .handshakeAck => sensorWrite [Config.ackByte] .settle s
  | .settle => hostAt .oscOn s
  | .oscOn => issue [.oscOn] .blinkOff s
  | .blinkOff => issue [.setBlink 0] .brightMax s
  | .brightMax => issue [.setBrightness 15] (.diag 0) s
  | .diag k => diagAction k s
  | .clear => issue [.clear] .handshakeDone s
  | .handshakeDone => hostAt .poll { s with host := { s.host with blinkCtr := 0 } }
  | .poll => pollSensor s
  | .outputs => lookAtOutputs s
  | .render pupil c => issue (frameRender s pupil c) .ack s
  | .ack => sensorWrite [Config.ackByte] .sleep s
  | .sleep => hostAt .poll s
  | .exited => s

/-- A move of the host: its action, with no output of the block; a process that has ended makes none
(44_host_control_loop.md R103). -/
def hostMove (s : State) : Result :=
  if s.host.pos = .exited then .fault .hostExited
  else .next (clearOutputs (hostAction s.host.pos s))

end Sys2Proof.Machine
end

