-- ==== Sys2Proof/Machine/Step.lean ====
section
/-! DEFINITION. One step of the system: the block performs the first pending request, in the order of
60_exceptions.md R108; when none is pending the host moves (log 16). -/

namespace Sys2Proof.Machine

/-- One step (00_scope.md R12). -/
def step (s : State) : Host.Outcome State Fault Refusal :=
  if s.fatal then .fault .halted
  else
    match decodeRequest s.reqs with
    | .ok (i, rest) => exec i (withRequests rest s)
    | .error .noRequest => hostMove s
    | .error (.reserved _) => .next (illegalRequest s)
    | .error (.incomplete _) => .refused .incompleteRequest

/-- The state with the request of a table word presented first (log 1). -/
def State.withFetchWord (s : State) (nbits w : Nat) : State :=
  withRequests (tableWordRequest nbits w ++ s.reqs) s

end Sys2Proof.Machine
end

