-- ==== Sys2Proof/Machine/Actuator.lean ====
section
/-! DEFINITION. The actuator as the block's transfers leave it: its fields as functions of TXLOG (10_state.md R27, R28),
what may be said of a command's effect (70_reset_and_hazards.md R123, R129), and the picture the display RAM gives
(20_memory.md R33). The block keeps no copy of any of it (10_state.md R22), so none of it is in State. -/

namespace Sys2Proof.Machine

/-- The actuator's fields (10_state.md R27). `none` is "no known value", a draw under no law (R28, log 14). -/
structure ActuatorFields where
  osc    : Option Bool
  bright : Option (BitVec 4)
  blink  : Option (BitVec 2)
  dispOn : Option Bool
  ram    : Option Image
  deriving DecidableEq, Repr

/-- Before any transfer no field has a known value (10_state.md R28, log 14). -/
def actuatorUnknown : ActuatorFields :=
  ⟨none, none, none, none, none⟩

/-- What a successful transfer writes; a failed one leaves the same field unknown (10_state.md R27, R28). -/
def fieldAfter {α : Type} (ok : Bool) (v : α) : Option α :=
  if ok then some v else none

/-- The image of a display write's bytes, if they are one (30_encoding.md R57). -/
def displayImage (bytes : List Byte) : Option Image :=
  match bytes with
  | addr :: data =>
    match takeBytes 16 data with
    | some (d, []) => if addr = Config.dbufAddr then some d else none
    | _ => none
  | [] => none

/-- One command byte (10_state.md R27). -/
def applyCommand (b : Byte) (ok : Bool) (f : ActuatorFields) : ActuatorFields :=
  if b = Config.opOscOn then { f with osc := fieldAfter ok true }
  else if b &&& 0xF0 = Config.opBright then { f with bright := fieldAfter ok (b.extractLsb' 0 4) }
  else if b &&& 0xF9 = Config.opBlink ||| Config.dispOnBit then
    { f with blink := fieldAfter ok (b.extractLsb' 1 2), dispOn := fieldAfter ok true }
  else f

/-- One record of TXLOG (10_state.md R27, R28). -/
def applyTransfer (f : ActuatorFields) (r : TxRecord) : ActuatorFields :=
  match r.bytes with
  | [b] => applyCommand b r.ok f
  | bytes =>
    match displayImage bytes with
    | some d => { f with ram := fieldAfter r.ok d }
    | none => f

/-- The actuator's fields after the transfers of a log (10_state.md R27). -/
def actuatorFields (log : List TxRecord) : ActuatorFields :=
  log.foldl applyTransfer actuatorUnknown

/-- A successful oscillator-on transfer. -/
def isOscOn (r : TxRecord) : Bool :=
  r.ok && r.bytes == oscOnTransfer

/-- The fields that may be relied on to be in effect: those written from the first successful OSC_ON on. Of a command sent
before it nothing is assumed, neither that it took effect nor that it did not (70_reset_and_hazards.md R123, log 15). -/
def fieldsInEffect (log : List TxRecord) : ActuatorFields :=
  actuatorFields (log.dropWhile fun r => !isOscOn r)

/-- The image known to be shown: the display-on flag is known to be set and the RAM is known (70_reset_and_hazards.md R129).
DESIGN CHOICE (log 28): the oscillator must be known to be on, too, so a failed repeat of OSC_ON leaves no image known to be
shown (10_state.md R28); nothing else that ends a run does, beyond what its record in TXLOG leaves unknown
(44_host_control_loop.md R104). -/
def imageShown (log : List TxRecord) : Option Image :=
  if (fieldsInEffect log).osc = some true ∧ (fieldsInEffect log).dispOn = some true then (fieldsInEffect log).ram else none

/-- The green byte of a row in a display image (43_display_buffer.md R87). -/
def imageGreen (d : Image) (r : Fin 8) : Byte :=
  d[2 * r.val]

/-- The red byte of a row in a display image (43_display_buffer.md R87). -/
def imageRed (d : Image) (r : Fin 8) : Byte :=
  d[2 * r.val + 1]

/-- The colour of the cell in buffer row `r` and column `c`: bit `c` of each plane (20_memory.md R33). -/
def cellColor (d : Image) (r c : Fin 8) : Color :=
  colorOfPlanes ((imageGreen d r).getLsbD c.val) ((imageRed d r).getLsbD c.val)

/-- How far from the left a column stands: column 7 is the leftmost (20_memory.md R33, 90_conflicts.md C5). -/
def columnFromLeft (c : Fin 8) : Fin 8 :=
  ⟨7 - c.val, by omega⟩

/-- How far from the top a buffer row stands, for the OPEN parameter ROW_ORIENT (20_memory.md R33, log 24). -/
def rowFromTop (o : RowOrient) (r : Fin 8) : Fin 8 :=
  match o with
  | .topFirst => r
  | .bottomFirst => ⟨7 - r.val, by omega⟩

/-- The picture a viewer sees, `y` from the top and `x` from the left, for each orientation (20_memory.md R33). -/
def pictureCell (o : RowOrient) (d : Image) (y x : Fin 8) : Color :=
  cellColor d (rowFromTop o y) (columnFromLeft x)

end Sys2Proof.Machine
end

