-- ==== Sys2Proof/Machine/Assembler.lean ====
section
/-! DEFINITION. The assembler syntax (30_encoding.md R55): a request as a line of text and a line of text as a request.
Spaces, blank lines and digits' case are the model's reading (log 27). -/

namespace Sys2Proof.Machine

/-- The mnemonic of a request (30_encoding.md R52). -/
def mnemonic : Instr → String
  | .nop => "NOP"
  | .feed _ => "FEED"
  | .feedEmpty => "FEED_EMPTY"
  | .feedError => "FEED_ERROR"
  | .oscOn => "OSC_ON"
  | .setBrightness _ => "SET_BRIGHTNESS"
  | .setBlink _ => "SET_BLINK"
  | .clear => "CLEAR"
  | .renderBegin => "RENDER_BEGIN"
  | .renderCommit => "RENDER_COMMIT"
  | .mergeOff _ => "MERGE.OFF"
  | .mergeG _ => "MERGE.G"
  | .mergeR _ => "MERGE.R"
  | .mergeY _ => "MERGE.Y"
  | .writeRaw _ => "WRITE_RAW"

/-- The operand bytes of a request: all its bytes but the opcode byte. -/
def operandBytes (i : Instr) : List Byte :=
  (encode i).tail

/-- A byte as a decimal number. -/
def printByte (b : Byte) : List Char :=
  Nat.toDigits 10 b.toNat

/-- Operands with a comma and a space between them. -/
def printOperands : List Byte → List Char
  | [] => []
  | [b] => printByte b
  | b :: bs => printByte b ++ [',', ' '] ++ printOperands bs

/-- A request as a line of assembler text (30_encoding.md R55). -/
def printInstr (i : Instr) : List Char :=
  match operandBytes i with
  | [] => (mnemonic i).toList
  | bs => (mnemonic i).toList ++ [' '] ++ printOperands bs

/-- Blanks between the parts of a line. -/
def isBlank (c : Char) : Bool :=
  c == ' ' || c == '\t'

/-- A text without blanks at either end. -/
def trimBlanks (cs : List Char) : List Char :=
  ((cs.dropWhile isBlank).reverse.dropWhile isBlank).reverse

/-- The parts of a text between separators. -/
def splitAtChar (sep : Char) : List Char → List (List Char)
  | [] => [[]]
  | c :: cs =>
    if c = sep then [] :: splitAtChar sep cs
    else
      match splitAtChar sep cs with
      | [] => [[c]]
      | w :: ws => (c :: w) :: ws

/-- The value of a digit, in bases up to 16. -/
def digitValue (c : Char) : Option Nat :=
  if '0' ≤ c ∧ c ≤ '9' then some (c.toNat - '0'.toNat)
  else if 'a' ≤ c ∧ c ≤ 'f' then some (c.toNat - 'a'.toNat + 10)
  else if 'A' ≤ c ∧ c ≤ 'F' then some (c.toNat - 'A'.toNat + 10)
  else none

/-- Digits in a base, read on from a value already read. -/
def parseDigits (base acc : Nat) : List Char → Option Nat
  | [] => some acc
  | c :: cs =>
    match digitValue c with
    | some d => if d < base then parseDigits base (base * acc + d) cs else none
    | none => none

/-- A number, decimal or `0x` hex, of at least one digit (30_encoding.md R55). -/
def parseNat (cs : List Char) : Option Nat :=
  match cs with
  | [] => none
  | '0' :: 'x' :: [] => none
  | '0' :: 'x' :: ds => parseDigits 16 0 ds
  | ds => parseDigits 10 0 ds

/-- A number from 0 to 255 (30_encoding.md R55). -/
def parseByte (cs : List Char) : Option Byte :=
  match parseNat (trimBlanks cs) with
  | some n => if n < 256 then some (BitVec.ofNat 8 n) else none
  | none => none

/-- Every operand of a line, if each of them is a number from 0 to 255. -/
def parseBytes : List (List Char) → Option (List Byte)
  | [] => some []
  | w :: ws =>
    match parseByte w, parseBytes ws with
    | some b, some bs => some (b :: bs)
    | _, _ => none

/-- Operands separated by commas; none when the text is empty. -/
def parseOperands (cs : List Char) : Option (List Byte) :=
  match trimBlanks cs with
  | [] => some []
  | text => parseBytes (splitAtChar ',' text)

/-- The request of a mnemonic and its operand bytes, if the row's format has that many (30_encoding.md R48, R52). -/
def makeRequest (name : List Char) (operands : List Byte) : Option Instr :=
  match opcodeMap.find? fun row => row.mnemonic.toList == name with
  | none => none
  | some row =>
    match decodeRequest (row.value :: operands) with
    | .ok (i, []) => some i
    | _ => none

/-- One line without its comment: no request when it is blank. -/
def parseStatement (cs : List Char) : Option (List Instr) :=
  match trimBlanks cs with
  | [] => some []
  | text =>
    match parseOperands (text.dropWhile fun c => !isBlank c) with
    | some operands => (makeRequest (text.takeWhile fun c => !isBlank c) operands).map fun i => [i]
    | none => none

/-- One line; a comment starts with `;` (30_encoding.md R55). -/
def parseLine (cs : List Char) : Option (List Instr) :=
  parseStatement (cs.takeWhile fun c => c != ';')

/-- The requests of a list of lines, in order. -/
def parseLines : List (List Char) → Option (List Instr)
  | [] => some []
  | line :: lines =>
    match parseLine line, parseLines lines with
    | some is, some more => some (is ++ more)
    | _, _ => none

/-- A program text, one request per line (30_encoding.md R55). -/
def assemble (text : List Char) : Option (List Instr) :=
  parseLines (splitAtChar '\n' text)

end Sys2Proof.Machine
end

