-- ==== Sys2Proof/WellFormed.lean ====
section
/-! DEFINITION. When a byte sequence is a well-formed request (30_encoding.md R48, R49, R54). An `Instr` carries its
operands at their exact widths, so the checks are on the bytes a host presents: there is an opcode byte, the opcode map
lists it, and as many bytes follow as its format says (log 26). -/

namespace Sys2Proof

/-- The opcode byte is in the opcode map (30_encoding.md R52, R54). -/
def opcodeListed (op : Byte) : Bool :=
  (opcodeRow op).isSome

/-- A byte sequence is exactly one request of the opcode map (30_encoding.md R48). -/
def requestWellFormed (bs : List Byte) : Bool :=
  match bs with
  | [] => false
  | op :: _ => opcodeListed op && bs.length == requestLength op

/-- A request is well formed when its bytes are. Every request is (Sys2Proof.Laws.Formed). -/
def instrWellFormed (i : Instr) : Bool :=
  requestWellFormed (encode i)

end Sys2Proof
end

