-- ==== Sys2Proof/Safety.lean ====
section
/-! DEFINITION. What the claims call a good state: the invariant of the block, the invariant of the reference host, and
runs of requests. -/

namespace Sys2Proof.Machine

/-- A byte sequence of one of the four transfers (30_encoding.md R57). -/
def legalTransfer (bytes : List Byte) : Bool :=
  match bytes with
  | [b] => b == 0x21 || b &&& 0xF0 == 0xE0 || b &&& 0xF9 == 0x81
  | _ => bytes.length == 17 && bytes.head? == some 0x00

/-- The block's invariant, true of every state a run reaches. -/
structure BlockInv (s : State) : Prop where
  /-- While FATAL = 0, CAUSE = 0x00 (10_state.md R23). -/
  idle_cause : s.fatal = false → s.cause = 0x00
  /-- With FATAL = 1, CAUSE holds one of the five cause codes (10_state.md R23, 60_exceptions.md R106). -/
  raised_cause : s.fatal = true → s.cause ∈ [0x01, 0x02, 0x03, 0x04, 0x05]
  /-- WB[0] is 0x00 while a render is open (43_display_buffer.md R85). -/
  address_byte : s.ropen = true → s.wb[0] = 0x00
  /-- Every transfer is one of the four (30_encoding.md R57). -/
  legal_transfers : ∀ r ∈ s.txlog, legalTransfer r.bytes = true
  /-- A transfer has failed exactly when the block has halted with TX_IO_ERROR (60_exceptions.md R106, R109). -/
  failed_transfer : (∃ r ∈ s.txlog, r.ok = false) ↔ s.fatal = true ∧ s.cause = 0x02
  /-- Frame and button outputs come together, the buttons decoded from the frame (10_state.md R25, 40_framer.md R61). -/
  outputs_paired : s.buttonsOut = s.frameOut.map (decodeButtons s.btnMap)

/-- What a request needs of ROPEN (60_exceptions.md R107, written row by row). -/
def requestNeed : Instr → Need
  | .nop | .feed _ | .feedEmpty | .feedError => .either
  | .mergeOff _ | .mergeG _ | .mergeR _ | .mergeY _ | .renderCommit => .opened
  | .renderBegin | .clear | .writeRaw _ | .oscOn | .setBrightness _ | .setBlink _ => .closed

/-- ROPEN after a request that meets its need and does not fault (43_display_buffer.md R79, R85). -/
def openAfter (i : Instr) (ropen : Bool) : Bool :=
  match i with
  | .renderBegin => true
  | .renderCommit => false
  | _ => ropen

/-- The requests that make a transfer (60_exceptions.md R106, the row of TX_IO_ERROR). -/
def emits : Instr → Bool
  | .oscOn | .setBrightness _ | .setBlink _ | .clear | .renderCommit | .writeRaw _ => true
  | .nop | .feed _ | .feedEmpty | .feedError | .renderBegin => false
  | .mergeOff _ | .mergeG _ | .mergeR _ | .mergeY _ => false

/-- The bytes of an emitting request's one transfer (30_encoding.md R57); the other requests make none. -/
def requestTransfer (i : Instr) (s : State) : List Byte :=
  match i with
  | .oscOn => oscOnTransfer
  | .setBrightness level => brightnessTransfer level
  | .setBlink rate => blinkTransfer rate
  | .clear => clearTransfer
  | .renderCommit => bufferTransfer s.wb
  | .writeRaw d => displayTransfer d
  | .nop | .feed _ | .feedEmpty | .feedError | .renderBegin => []
  | .mergeOff _ | .mergeG _ | .mergeR _ | .mergeY _ => []

/-- The requests that write WB (20_memory.md R37). -/
def writesBuffer : Instr → Bool
  | .renderBegin | .mergeG _ | .mergeR _ | .mergeY _ => true
  | .nop | .feed _ | .feedEmpty | .feedError | .oscOn | .setBrightness _ | .setBlink _ => false
  | .clear | .renderCommit | .mergeOff _ | .writeRaw _ => false

/-- FEED, the only request that writes FB and WIDX (20_memory.md R37). -/
def isFeed : Instr → Bool
  | .feed _ => true
  | _ => false

/-- The reserved opcode bytes (30_encoding.md R54). -/
def inReservedRanges (op : Byte) : Bool :=
  (0x04 ≤ op.toNat && op.toNat ≤ 0x0F) || (0x13 ≤ op.toNat && op.toNat ≤ 0x1F) || op.toNat == 0x23 ||
    (0x28 ≤ op.toNat && op.toNat ≤ 0x2F) || (0x31 ≤ op.toNat && op.toNat ≤ 0xFF)

/-- `i` makes the one transfer `seq`: on success its record joins TXLOG and ROPEN is as given; on failure the record joins
with `ok = 0`, TX_IO_ERROR is raised and ROPEN is as it was (60_exceptions.md R109). Beside that only the actuator's answer
has been taken. -/
def Transmits (i : Instr) (s : State) (seq : List Byte) (ropenAfter : Bool) : Prop :=
  (actuatorAnswer s = true →
    exec i s = .next { actuatorDrawn s with
      txlog := s.txlog ++ [⟨seq, true⟩], ropen := ropenAfter, frameOut := none, buttonsOut := none }) ∧
  (actuatorAnswer s = false →
    exec i s = .next { actuatorDrawn s with
      txlog := s.txlog ++ [⟨seq, false⟩], fatal := true, cause := 0x02, frameOut := none, buttonsOut := none })

/-- `i` raises a fatal fault with this cause code and changes nothing else (60_exceptions.md R109). -/
def Raises (i : Instr) (s : State) (code : BitVec 8) : Prop :=
  exec i s = .next { s with fatal := true, cause := code, frameOut := none, buttonsOut := none }

/-- `i` has no effect but that the step outputs are empty. -/
def NoEffect (i : Instr) (s : State) : Prop :=
  exec i s = .next { s with frameOut := none, buttonsOut := none }

/-- The next step takes the host's process to its end, with nothing presented to the block and nothing sent to the actuator,
and there is no step after it (44_host_control_loop.md R103). -/
def EndsRun (s : State) : Prop :=
  ∃ t, step s = .next t ∧ t.host.pos = .exited ∧ t.reqs = [] ∧ t.txlog = s.txlog ∧ step t = .fault .hostExited

/-- A list of requests that meets the sequencing check all along and leaves no render open (60_exceptions.md R107,
70_reset_and_hazards.md R128). -/
def bracketed (ropen : Bool) : List Instr → Bool
  | [] => !ropen
  | i :: is => (sequencingFault (requestNeed i) ropen).isNone && bracketed (openAfter i ropen) is

/-- The last transfer was a successful display write (44_host_control_loop.md R101). -/
def lastWasDisplayWrite (log : List TxRecord) : Prop :=
  ∃ r, log.getLast? = some r ∧ r.ok = true ∧ r.bytes.length = 17

/-- The invariant of a run of the reference host: what is pending is whole requests in well-bracketed order, and where the
host is about to acknowledge, a RENDER_COMMIT is the last request pending or a display write has just succeeded. -/
def HostInv (s : State) : Prop :=
  s.fatal = false →
    ∃ is : List Instr, s.reqs = encodeAll is ∧ bracketed s.ropen is = true ∧
      (s.host.pos = .ack →
        (is = [] ∧ lastWasDisplayWrite s.txlog) ∨ is.getLast? = some .renderCommit)

/-- The requests of a sequence of transport reads: a byte, or an empty read (40_framer.md R64). -/
def framerRequests (reads : List (Option Byte)) : List Instr :=
  reads.map fun r => match r with
    | some b => .feed b
    | none => .feedEmpty

/-- The OR of row `r` over the layers whose colour selects the plane (43_display_buffer.md R90). -/
def rowUnion (selects : Color → Bool) (layers : List (Layer × Color)) (r : Fin 8) : Byte :=
  (layers.filter fun lc => selects lc.2).foldr (fun lc acc => lc.1[r] ||| acc) 0x00

/-- The bytes of a whole render: the address byte, then green and red of each row (43_display_buffer.md R90). -/
def renderBytes (layers : List (Layer × Color)) : List Byte :=
  0x00 :: (List.finRange 8).flatMap fun r =>
    [rowUnion (fun c => c = .green ∨ c = .yellow) layers r, rowUnion (fun c => c = .red ∨ c = .yellow) layers r]

/-- The images of a diagnostic sequence's display writes, in order (44_host_control_loop.md R95 step 8). -/
def diagImages (items : List DiagItem) : List Image :=
  items.filterMap fun item => match item with
    | .write d => some d
    | .delay => none

/-- Perform a list of requests with no host between them; a request with no step ends the run. -/
def runRequests : List Instr → State → Result
  | [], s => .next s
  | i :: is, s =>
    match exec i s with
    | .next t => runRequests is t
    | .fault r => .fault r
    | .refused r => .refused r

/-- Perform a list of requests and collect the frames their steps output (40_framer.md R64). -/
def framesOf : List Instr → State → List Frame
  | [], _ => []
  | i :: is, s =>
    match exec i s with
    | .next t => t.frameOut.toList ++ framesOf is t
    | .fault _ => []
    | .refused _ => []

end Sys2Proof.Machine
end

