-- ==== Sys2Proof/Certificates/Slice0/Obligations.lean ====
section
/-! DEFINITION. The statements for the provers, each with the rule of spec/ it formalises. In every statement about a
request the record update in its conclusion is its frame: what the update does not name is unchanged. -/

open Sys2Proof Sys2Proof.Machine

/-! ### Encoding -/

/-- Reading back an encoded request gives it and leaves the rest of the stream (30_encoding.md R48, R49, R52). -/
def Obligations.DecodeOfEncodeIsTheRequest : Prop :=
  ∀ (i : Instr) (rest : List Byte), decodeRequest (encode i ++ rest) = .ok (i, rest)

/-- What the decoder reads is exactly the encoding of the request it gives: no byte is dropped or ignored. -/
def Obligations.DecodedBytesAreTheEncoding : Prop :=
  ∀ (bs : List Byte) (i : Instr) (rest : List Byte), decodeRequest bs = .ok (i, rest) → bs = encode i ++ rest

/-- The byte sequences that pass the checks of R48 and R54 are exactly the encodings of requests. -/
def Obligations.WellFormedBytesAreEncodings : Prop :=
  ∀ bs : List Byte, requestWellFormed bs = true ↔ ∃ i : Instr, encode i = bs

/-- R54: the reserved opcode bytes are those ranges, and a request with one does nothing except raise ILLEGAL_REQUEST,
whatever ROPEN is; the byte is a request of length 1 (R49). -/
def Obligations.ReservedOpcodeRaisesIllegalRequest : Prop :=
  (∀ (op : Byte) (rest : List Byte), decodeRequest (op :: rest) = .error (.reserved op) ↔ inReservedRanges op = true) ∧
  ∀ (s : State) (op : Byte) (rest : List Byte), s.fatal = false → s.reqs = op :: rest → inReservedRanges op = true →
    step s = .next { s with reqs := rest, fatal := true, cause := 0x05, frameOut := none, buttonsOut := none }

/-- Words written out from the encodings of R48 and R52 decode to their requests. -/
def Obligations.SampleWordsDecode : Prop :=
  decodeRequest [0x01, 0x3F] = .ok (.feed 0x3F, []) ∧
  decodeRequest [0x11, 0x0F, 0x20] = .ok (.setBrightness 15, [0x20]) ∧
  decodeRequest [0x25, 0x3C, 0x42, 0x81, 0x81, 0x81, 0x81, 0x42, 0x3C] =
    .ok (.mergeG #v[0x3C, 0x42, 0x81, 0x81, 0x81, 0x81, 0x42, 0x3C], []) ∧
  decodeRequest [0x30, 1, 2, 3, 4, 5, 6, 7, 8, 9, 10, 11, 12, 13, 14, 15, 16] =
    .ok (.writeRaw #v[1, 2, 3, 4, 5, 6, 7, 8, 9, 10, 11, 12, 13, 14, 15, 16], [])

/-- The assembler reads a printed request back (30_encoding.md R55). Its handling of blanks is the model's choice,
log 27. -/
def Obligations.AssemblerReadsPrintedRequest : Prop :=
  ∀ i : Instr, parseLine (printInstr i) = some [i]

/-! ### The step -/

/-- R12, R49: where the presented bytes begin with a request, the step is that request, performed on the state in which it
has been taken from the stream. -/
def Obligations.StepPerformsThePresentedRequest : Prop :=
  ∀ (s : State) (i : Instr) (rest : List Byte),
    decodeRequest s.reqs = .ok (i, rest) → step s = exec i { s with reqs := rest }

/-- R110: with FATAL = 1 no request has a step and the machine has none, so nothing but reset clears FATAL. -/
def Obligations.HaltedBlockHasNoStep : Prop :=
  ∀ s : State, s.fatal = true → step s = .fault .halted ∧ ∀ i : Instr, exec i s = .fault .halted

/-- R12, R122: with FATAL = 0 every request has its meaning in every state, the reset state among them. -/
def Obligations.EveryRequestAnswersANextState : Prop :=
  ∀ (i : Instr) (s : State), s.fatal = false → ∃ t, exec i s = .next t

/-- R37: what a request may write. FB and WIDX are FEED's; WB is RENDER_BEGIN's and the merges'; ROPEN is RENDER_BEGIN's and
RENDER_COMMIT's; only the emitting requests add to TXLOG, one record at most; the parameters, the host and the stream of
requests are no request's. -/
def Obligations.RequestsWriteOnlyTheirState : Prop :=
  ∀ (i : Instr) (s t : State), exec i s = .next t →
    t.reqs = s.reqs ∧ t.host = s.host ∧ t.btnMap = s.btnMap ∧ t.sensorTape = s.sensorTape ∧
    t.transportTape = s.transportTape ∧
    (isFeed i = false → t.fb = s.fb ∧ t.widx = s.widx ∧ t.frameOut = none ∧ t.buttonsOut = none) ∧
    (writesBuffer i = false → t.wb = s.wb) ∧
    (i ≠ .renderBegin → i ≠ .renderCommit → t.ropen = s.ropen) ∧
    (emits i = false → t.txlog = s.txlog ∧ t.actuatorTape = s.actuatorTape ∧ t.draws = s.draws) ∧
    ∃ rs : List TxRecord, t.txlog = s.txlog ++ rs ∧ rs.length ≤ 1

/-- A move of the host leaves all of the block's state alone; it only presents requests (R6, R8). -/
def Obligations.HostMoveLeavesTheBlockAlone : Prop :=
  ∀ s t : State, hostMove s = .next t →
    t.fb = s.fb ∧ t.widx = s.widx ∧ t.wb = s.wb ∧ t.ropen = s.ropen ∧ t.fatal = s.fatal ∧ t.cause = s.cause ∧
    t.txlog = s.txlog ∧ t.btnMap = s.btnMap ∧ t.actuatorTape = s.actuatorTape ∧
    t.frameOut = none ∧ t.buttonsOut = none ∧ ∃ is : List Instr, t.reqs = s.reqs ++ encodeAll is

/-- R24, R43: a step never removes or changes a record of TXLOG and adds at most one. -/
def Obligations.TransferLogOnlyGrows : Prop :=
  ∀ s t : State, step s = .next t → ∃ rs : List TxRecord, t.txlog = s.txlog ++ rs ∧ rs.length ≤ 1

/-- R26: the fields of STATUS. -/
def Obligations.StatusWordFields : Prop :=
  ∀ s : State,
    (status s).getLsbD 15 = s.fatal ∧ (status s).getLsbD 14 = s.ropen ∧ (status s).extractLsb' 11 3 = 0 ∧
    ((status s).extractLsb' 8 3).toNat = s.widx.val ∧ (status s).extractLsb' 0 8 = s.cause

/-- R30: what reset leaves, for every element whose reset value the rule gives. FB and WB are unspecified there (the model's
zeros are its choice, log 3 and 4, and are not stated). -/
def Obligations.ResetLeavesTheStatedValues : Prop :=
  State.reset.widx = 0 ∧ State.reset.ropen = false ∧ State.reset.fatal = false ∧ State.reset.cause = 0x00 ∧
  State.reset.txlog = [] ∧ actuatorFields State.reset.txlog = ⟨none, none, none, none, none⟩ ∧
  status State.reset = 0x0000

/-! ### Packet Framer -/

/-- R61: FEED writes FB[WIDX]; at WIDX = 5 it outputs the frame and its buttons and WIDX becomes 0, else WIDX is one
more. -/
def Obligations.FeedStoresTheByteAndCompletesAtFive : Prop :=
  ∀ (s : State) (b : Byte), encode (.feed b) = [0x01, b] ∧ (s.fatal = false →
    ∃ fb : Frame, fb[s.widx] = b ∧ (∀ j : Fin 6, j ≠ s.widx → fb[j] = s.fb[j]) ∧
      (s.widx = 5 → exec (.feed b) s = .next { s with
        fb := fb, widx := 0, frameOut := some fb, buttonsOut := some (decodeButtons s.btnMap fb) }) ∧
      (s.widx ≠ 5 → ∃ w : Fin 6, w.val = s.widx.val + 1 ∧
        exec (.feed b) s = .next { s with fb := fb, widx := w, frameOut := none, buttonsOut := none }))

/-- R62: FEED_EMPTY changes nothing. -/
def Obligations.FeedEmptyChangesNothing : Prop :=
  encode .feedEmpty = [0x02] ∧ ∀ s : State, s.fatal = false → NoEffect .feedEmpty s

/-- R63: FEED_ERROR always raises RX_IO_ERROR, whatever WIDX and ROPEN are, and keeps FB and WIDX. -/
def Obligations.FeedErrorRaisesRxIoError : Prop :=
  encode .feedError = [0x03] ∧ ∀ s : State, s.fatal = false → Raises .feedError s 0x01

/-- R64: from WIDX = 0, after `k` FEEDs with any FEED_EMPTYs among them, WIDX is `k mod 6` and the frames output are the
`k / 6` runs of six bytes in order. -/
def Obligations.FramerGroupsBytesBySix : Prop :=
  ∀ (s : State) (reads : List (Option Byte)), s.fatal = false → s.widx = 0 →
    (∃ t, runRequests (framerRequests reads) s = .next t ∧ t.widx.val = (reads.filterMap id).length % 6) ∧
    (framesOf (framerRequests reads) s).map (fun f => f.toList) =
      (List.range ((reads.filterMap id).length / 6)).map fun j => ((reads.filterMap id).drop (6 * j)).take 6

/-- R18, R65: a request moves WIDX only by being a FEED, and then by one modulo six, whatever its byte is. -/
def Obligations.WriteIndexCountsFeeds : Prop :=
  ∀ (i : Instr) (s t : State), exec i s = .next t →
    t.widx.val = if isFeed i then (s.widx.val + 1) % 6 else s.widx.val

/-- R25: the step outputs are empty except in a FEED step that completes a frame. -/
def Obligations.OutputsOnlyFromACompletingFeed : Prop :=
  ∀ (i : Instr) (s t : State), exec i s = .next t → (t.frameOut ≠ none ∨ t.buttonsOut ≠ none) →
    isFeed i = true ∧ s.widx = 5

/-! ### Button Decoder -/

/-- R67: each flag is `(~f[idx]) & mask` not zero, for its entry of the map. -/
def Obligations.DecodeComputesEachFlag : Prop :=
  ∀ (m : ButtonMap) (f : Frame) (flag : Button),
    buttonPressed (decodeButtons m f) flag = true ↔
      ~~~(match (m.entry flag).idx with | .byte4 => f[4] | .byte5 => f[5]) &&& (m.entry flag).mask ≠ 0x00

/-- R68: Decode reads only f[4] and f[5]. -/
def Obligations.DecodeReadsOnlyTheButtonBytes : Prop :=
  ∀ (m : ButtonMap) (f g : Frame), f[4] = g[4] → f[5] = g[5] → decodeButtons m f = decodeButtons m g

/-- R69, for the default map of R72 (log 10): any combination of flags can be pressed at once. -/
def Obligations.DefaultMapFlagsAreIndependent : Prop :=
  ∀ st : ButtonState, ∃ f : Frame, decodeButtons defaultButtonMap f = st

/-- R72 with R60: which bit of which byte each bit of the ButtonState vector complements under the default map (log 10: the
spec takes the map from general knowledge). -/
def Obligations.DefaultMapVectorBits : Prop :=
  ∀ f : Frame,
    let v := buttonVector (decodeButtons defaultButtonMap f)
    v.getLsbD 0 = !f[5].getLsbD 1 ∧ v.getLsbD 1 = !f[5].getLsbD 0 ∧ v.getLsbD 2 = !f[4].getLsbD 6 ∧
    v.getLsbD 3 = !f[4].getLsbD 7 ∧ v.getLsbD 4 = !f[5].getLsbD 4 ∧ v.getLsbD 5 = !f[5].getLsbD 6 ∧
    v.getLsbD 6 = !f[4].getLsbD 2 ∧ v.getLsbD 7 = !f[4].getLsbD 4

/-- R73: the decoder's properties for a flag whose mask is the single bit `k`. -/
def Obligations.SingleBitMaskProperties : Prop :=
  ∀ (m : ButtonMap) (flag : Button) (k : Fin 8) (f : Frame), (m.entry flag).mask = 1#8 <<< k.val →
    let byte := match (m.entry flag).idx with | .byte4 => f[4] | .byte5 => f[5]
    let pressed := buttonPressed (decodeButtons m f) flag
    (pressed = true ↔ byte.getLsbD k.val = false) ∧
    (byte = 0xFF → pressed = false) ∧
    (byte = 0x00 → pressed = true) ∧
    (∀ j : Fin 8, byte = 0xFF ^^^ (1#8 <<< j.val) → (pressed = true ↔ j = k)) ∧
    (∀ j : Fin 8, byte = 1#8 <<< j.val → (pressed = true ↔ j ≠ k))

/-! ### Device control -/

/-- R74: OSC_ON. -/
def Obligations.OscOnSendsOscillatorByte : Prop :=
  encode .oscOn = [0x10] ∧ ∀ s : State, s.fatal = false →
    (s.ropen = true → Raises .oscOn s 0x04) ∧
    (s.ropen = false → Transmits .oscOn s [0x21] false) ∧
    (actuatorFields (s.txlog ++ [⟨[0x21], true⟩])).osc = some true

/-- R75: SET_BRIGHTNESS sends `0xE0 | min(level, 15)`. -/
def Obligations.SetBrightnessSendsClampedLevel : Prop :=
  ∀ (level : Byte) (s : State), encode (.setBrightness level) = [0x11, level] ∧ (s.fatal = false →
    let seq : List Byte := [BitVec.ofNat 8 (0xE0 ||| min level.toNat 15)]
    (s.ropen = true → Raises (.setBrightness level) s 0x04) ∧
    (s.ropen = false → Transmits (.setBrightness level) s seq false) ∧
    (actuatorFields (s.txlog ++ [⟨seq, true⟩])).bright = some (BitVec.ofNat 4 (min level.toNat 15)))

/-- R76: SET_BLINK sends `0x80 | 0x01 | (r << 1)` with r the rate up to 3 and 0 above (90_conflicts.md C1). -/
def Obligations.SetBlinkSendsFailSafeRate : Prop :=
  ∀ (rate : Byte) (s : State), encode (.setBlink rate) = [0x12, rate] ∧ (s.fatal = false →
    let r := if rate.toNat ≤ 3 then rate.toNat else 0
    let seq : List Byte := [BitVec.ofNat 8 (0x80 ||| 0x01 ||| (r <<< 1))]
    (s.ropen = true → Raises (.setBlink rate) s 0x04) ∧
    (s.ropen = false → Transmits (.setBlink rate) s seq false) ∧
    (actuatorFields (s.txlog ++ [⟨seq, true⟩])).blink = some (BitVec.ofNat 2 r) ∧
    (actuatorFields (s.txlog ++ [⟨seq, true⟩])).dispOn = some true)

/-- R77: the device control properties, for every level and rate. -/
def Obligations.DeviceControlReductions : Prop :=
  ∀ (s : State) (level rate : Byte),
    exec (.setBrightness level) s = exec (.setBrightness (BitVec.ofNat 8 (min level.toNat 15))) s ∧
    (∀ t, exec (.setBrightness level) s = .next t → t.txlog ≠ s.txlog →
      ∃ (c : Byte) (ok : Bool), t.txlog = s.txlog ++ [⟨[c], ok⟩] ∧ 0xE0 ≤ c.toNat ∧ c.toNat ≤ 0xEF) ∧
    (3 < rate.toNat → exec (.setBlink rate) s = exec (.setBlink 0) s) ∧
    (∀ t, exec (.setBlink rate) s = .next t → t.txlog ≠ s.txlog →
      ∃ (c : Byte) (ok : Bool), t.txlog = s.txlog ++ [⟨[c], ok⟩] ∧ c ∈ ([0x81, 0x83, 0x85, 0x87] : List Byte) ∧
        c.getLsbD 0 = true)

/-! ### Display buffer -/

/-- R78: MergeLayer ORs row `r` of the layer into the planes the colour selects, clears nothing and leaves WB[0] alone. -/
def Obligations.MergeLayerOrsSelectedPlanes : Prop :=
  ∀ (wb : Buffer) (l : Layer) (c : Color),
    (mergeLayer wb l c)[0] = wb[0] ∧
    ∀ r : Fin 8,
      (mergeLayer wb l c)[1 + 2 * r.val] =
        (if (colorCode c).getLsbD 0 then wb[1 + 2 * r.val] ||| l[r] else wb[1 + 2 * r.val]) ∧
      (mergeLayer wb l c)[2 + 2 * r.val] =
        (if (colorCode c).getLsbD 1 then wb[2 + 2 * r.val] ||| l[r] else wb[2 + 2 * r.val])

/-- R79: RENDER_BEGIN. -/
def Obligations.RenderBeginZeroesTheBuffer : Prop :=
  encode .renderBegin = [0x21] ∧ ∀ s : State, s.fatal = false →
    (s.ropen = true → Raises .renderBegin s 0x04) ∧
    (s.ropen = false → ∃ wb : Buffer, (∀ k : Fin 17, wb[k] = 0x00) ∧
      exec .renderBegin s = .next { s with wb := wb, ropen := true, frameOut := none, buttonsOut := none })

/-- R81: MERGE.OFF checks ROPEN and then changes nothing. -/
def Obligations.MergeOffChangesNothing : Prop :=
  ∀ (l : Layer) (s : State), encode (.mergeOff l) = 0x24 :: l.toList ∧ (s.fatal = false →
    (s.ropen = false → Raises (.mergeOff l) s 0x03) ∧
    (s.ropen = true → NoEffect (.mergeOff l) s))

/-- R82: MERGE.G ORs into the green bytes and leaves every other byte of WB unchanged. -/
def Obligations.MergeGreenOrsGreenRows : Prop :=
  ∀ (l : Layer) (s : State), encode (.mergeG l) = 0x25 :: l.toList ∧ (s.fatal = false →
    (s.ropen = false → Raises (.mergeG l) s 0x03) ∧
    (s.ropen = true → ∃ wb : Buffer, wb[0] = s.wb[0] ∧
      (∀ r : Fin 8, wb[1 + 2 * r.val] = s.wb[1 + 2 * r.val] ||| l[r] ∧ wb[2 + 2 * r.val] = s.wb[2 + 2 * r.val]) ∧
      exec (.mergeG l) s = .next { s with wb := wb, frameOut := none, buttonsOut := none }))

/-- R83: MERGE.R ORs into the red bytes and leaves every other byte of WB unchanged. -/
def Obligations.MergeRedOrsRedRows : Prop :=
  ∀ (l : Layer) (s : State), encode (.mergeR l) = 0x26 :: l.toList ∧ (s.fatal = false →
    (s.ropen = false → Raises (.mergeR l) s 0x03) ∧
    (s.ropen = true → ∃ wb : Buffer, wb[0] = s.wb[0] ∧
      (∀ r : Fin 8, wb[1 + 2 * r.val] = s.wb[1 + 2 * r.val] ∧ wb[2 + 2 * r.val] = s.wb[2 + 2 * r.val] ||| l[r]) ∧
      exec (.mergeR l) s = .next { s with wb := wb, frameOut := none, buttonsOut := none }))

/-- R84: MERGE.Y ORs into both planes, and equals MERGE.G followed by MERGE.R. -/
def Obligations.MergeYellowOrsBothRows : Prop :=
  ∀ (l : Layer) (s : State), encode (.mergeY l) = 0x27 :: l.toList ∧ (s.fatal = false →
    (s.ropen = false → Raises (.mergeY l) s 0x03) ∧
    (s.ropen = true →
      (∃ wb : Buffer, wb[0] = s.wb[0] ∧
        (∀ r : Fin 8, wb[1 + 2 * r.val] = s.wb[1 + 2 * r.val] ||| l[r] ∧
          wb[2 + 2 * r.val] = s.wb[2 + 2 * r.val] ||| l[r]) ∧
        exec (.mergeY l) s = .next { s with wb := wb, frameOut := none, buttonsOut := none }) ∧
      exec (.mergeY l) s = runRequests [.mergeG l, .mergeR l] s))

/-- R85: RENDER_COMMIT sends WB[0] to WB[16] in one transfer and closes the render; a failed one leaves ROPEN at 1. -/
def Obligations.RenderCommitSendsTheBuffer : Prop :=
  encode .renderCommit = [0x22] ∧ ∀ s : State, s.fatal = false →
    (s.ropen = false → Raises .renderCommit s 0x03) ∧
    (s.ropen = true → Transmits .renderCommit s s.wb.toList false)

/-- R86: CLEAR sends seventeen zero bytes; WB and ROPEN are unchanged; the actuator's RAM becomes zeros. -/
def Obligations.ClearSendsZeroImage : Prop :=
  encode .clear = [0x20] ∧ ∀ s : State, s.fatal = false →
    (s.ropen = true → Raises .clear s 0x04) ∧
    (s.ropen = false → Transmits .clear s (List.replicate 17 0x00) false) ∧
    (actuatorFields (s.txlog ++ [⟨List.replicate 17 0x00, true⟩])).ram = some (Vector.replicate 16 0x00)

/-- R87: WRITE_RAW sends the address byte and its sixteen bytes; WB and ROPEN are unchanged; with zeros it is CLEAR. -/
def Obligations.WriteRawSendsItsImage : Prop :=
  ∀ (d : Image) (s : State), encode (.writeRaw d) = 0x30 :: d.toList ∧ (s.fatal = false →
    (s.ropen = true → Raises (.writeRaw d) s 0x04) ∧
    (s.ropen = false → Transmits (.writeRaw d) s (0x00 :: d.toList) false) ∧
    (actuatorFields (s.txlog ++ [⟨0x00 :: d.toList, true⟩])).ram = some d ∧
    exec (.writeRaw (Vector.replicate 16 0x00)) s = exec .clear s)

/-- R88: NOP changes nothing, whatever ROPEN is. -/
def Obligations.NopChangesNothing : Prop :=
  encode .nop = [0x00] ∧ ∀ s : State, s.fatal = false → NoEffect .nop s

/-- R89: merging is monotone, idempotent, order-independent, a union for one colour; Off is nothing and Yellow is Green and
then Red. -/
def Obligations.CompositingProperties : Prop :=
  ∀ (wb : Buffer) (l l1 l2 : Layer) (c c1 c2 : Color),
    (∀ (k : Fin 17) (n : Nat), wb[k].getLsbD n = true → (mergeLayer wb l c)[k].getLsbD n = true) ∧
    mergeLayer (mergeLayer wb l c) l c = mergeLayer wb l c ∧
    mergeLayer (mergeLayer wb l1 c1) l2 c2 = mergeLayer (mergeLayer wb l2 c2) l1 c1 ∧
    mergeLayer (mergeLayer wb l1 c) l2 c = mergeLayer wb (Vector.ofFn fun r : Fin 8 => l1[r] ||| l2[r]) c ∧
    mergeLayer wb l .off = wb ∧
    mergeLayer wb l .yellow = mergeLayer (mergeLayer wb l .green) l .red

/-- R90: a render with no fault emits one transfer: the address byte, then for each row the OR of the layers merged in Green
or Yellow and the OR of those merged in Red or Yellow. -/
def Obligations.RenderEmitsUnionOfLayers : Prop :=
  ∀ (s : State) (layers : List (Layer × Color)), s.fatal = false → s.ropen = false → actuatorAnswer s = true →
    ∃ t, runRequests (renderRequests layers) s = .next t ∧ t.txlog = s.txlog ++ [⟨renderBytes layers, true⟩] ∧
      t.ropen = false ∧ t.fatal = false ∧ t.fb = s.fb ∧ t.widx = s.widx

/-- R33, R51: after one merge into a zeroed buffer a cell shows the merged colour exactly where the layer's bit is set. -/
def Obligations.MergedCellShowsItsColor : Prop :=
  ∀ (l : Layer) (c : Color) (d : Image) (row col : Fin 8),
    displayImage (mergeLayer (Vector.replicate 17 0x00) l c).toList = some d →
      cellColor d row col = if l[row].getLsbD col.val then c else .off

/-! ### Faults -/

/-- R107: the sequencing check, request by request. -/
def Obligations.SequencingCheckRaisesItsFault : Prop :=
  ∀ (i : Instr) (s : State), s.fatal = false →
    (requestNeed i = .opened → s.ropen = false → Raises i s 0x03) ∧
    (requestNeed i = .closed → s.ropen = true → Raises i s 0x04) ∧
    ((requestNeed i = .either ∨ requestNeed i = .opened ∧ s.ropen = true ∨ requestNeed i = .closed ∧ s.ropen = false) →
      s.cause = 0x00 → ∃ t, exec i s = .next t ∧ t.cause ≠ 0x03 ∧ t.cause ≠ 0x04)

/-- R106: which requests raise which cause, and when. -/
def Obligations.CauseCodesAndTheirRequests : Prop :=
  (∀ (i : Instr) (s : State), s.fatal = false → s.cause = 0x00 → ∃ t, exec i s = .next t ∧
    (t.fatal = false ↔ t.cause = 0x00) ∧
    (t.cause = 0x01 ↔ i = .feedError) ∧
    (t.cause = 0x02 ↔ emits i = true ∧ sequencingFault (requestNeed i) s.ropen = none ∧ actuatorAnswer s = false) ∧
    (t.cause = 0x03 ↔ requestNeed i = .opened ∧ s.ropen = false) ∧
    (t.cause = 0x04 ↔ requestNeed i = .closed ∧ s.ropen = true) ∧
    t.cause.toNat ≤ 0x04) ∧
  ∀ (s : State) (op : Byte) (rest : List Byte), s.fatal = false → s.reqs = op :: rest → opcodeListed op = false →
    ∃ t, step s = .next t ∧ t.fatal = true ∧ t.cause = 0x05

/-- R109: a step that faults takes its request from the stream and writes FATAL, CAUSE and the empty outputs; where the cause
is TX_IO_ERROR the record of the request's own transfer, failed, also joins TXLOG; nothing else changes. -/
def Obligations.FaultEntryIsPrecise : Prop :=
  ∀ s t : State, step s = .next t → s.fatal = false → t.fatal = true →
    (∃ (i : Instr) (rest : List Byte), decodeRequest s.reqs = .ok (i, rest) ∧
      ((i = .feedError ∧
          t = { s with reqs := rest, fatal := true, cause := 0x01, frameOut := none, buttonsOut := none }) ∨
        (∃ c : Cause, sequencingFault (requestNeed i) s.ropen = some c ∧
          t = { s with reqs := rest, fatal := true, cause := causeCode c, frameOut := none, buttonsOut := none }) ∨
        (emits i = true ∧ sequencingFault (requestNeed i) s.ropen = none ∧ actuatorAnswer s = false ∧
          t = { actuatorDrawn s with
            reqs := rest, txlog := s.txlog ++ [⟨requestTransfer i s, false⟩], fatal := true, cause := 0x02,
            frameOut := none, buttonsOut := none }))) ∨
    (∃ (op : Byte) (rest : List Byte), s.reqs = op :: rest ∧ opcodeListed op = false ∧
      t = { s with reqs := rest, fatal := true, cause := 0x05, frameOut := none, buttonsOut := none })

/-- The block's invariant is kept by every step: CAUSE with FATAL, WB[0] in a render, the legal transfers, the failed
transfer, the paired outputs (R23, R57, R85, R106, R109, R25). -/
def Obligations.BlockInvariantKeptByStep : Prop :=
  ∀ s t : State, BlockInv s → step s = .next t → BlockInv t

/-! ### Actuator -/

/-- R27: what each successful transfer writes, every other field unchanged. -/
def Obligations.SuccessfulTransferSetsItsField : Prop :=
  ∀ log : List TxRecord,
    actuatorFields (log ++ [⟨[0x21], true⟩]) = { actuatorFields log with osc := some true } ∧
    (∀ l : BitVec 4, actuatorFields (log ++ [⟨[0xE0 ||| l.setWidth 8], true⟩]) =
      { actuatorFields log with bright := some l }) ∧
    (∀ r : BitVec 2, actuatorFields (log ++ [⟨[0x81 ||| (r.setWidth 8 <<< 1)], true⟩]) =
      { actuatorFields log with blink := some r, dispOn := some true }) ∧
    ∀ d : Image, actuatorFields (log ++ [⟨0x00 :: d.toList, true⟩]) = { actuatorFields log with ram := some d }

/-- R28: before any transfer no field is known, and a failed transfer leaves every field it would have written unknown. -/
def Obligations.FailedTransferLeavesFieldUnknown : Prop :=
  actuatorFields [] = ⟨none, none, none, none, none⟩ ∧
  ∀ log : List TxRecord,
    actuatorFields (log ++ [⟨[0x21], false⟩]) = { actuatorFields log with osc := none } ∧
    (∀ l : BitVec 4, actuatorFields (log ++ [⟨[0xE0 ||| l.setWidth 8], false⟩]) =
      { actuatorFields log with bright := none }) ∧
    (∀ r : BitVec 2, actuatorFields (log ++ [⟨[0x81 ||| (r.setWidth 8 <<< 1)], false⟩]) =
      { actuatorFields log with blink := none, dispOn := none }) ∧
    ∀ d : Image, actuatorFields (log ++ [⟨0x00 :: d.toList, false⟩]) = { actuatorFields log with ram := none }

/-- R123, R129: an image is known to be shown only after a successful oscillator-on and a successful blink command. That a
command before OSC_ON counts for nothing is the model's reading of R123, log 15; what else an image must have to be known to be shown
is its choice, log 28. -/
def Obligations.ShownImageNeedsOscillatorAndBlink : Prop :=
  ∀ (log : List TxRecord) (d : Image), imageShown log = some d →
    (∃ r ∈ log, r.ok = true ∧ r.bytes = [0x21]) ∧
    ∃ r ∈ log, r.ok = true ∧ ∃ b : Byte, r.bytes = [b] ∧ b &&& 0xF9 = 0x81

/-! ### Host reference program -/

/-- R97: the pupil, by the priority order. -/
def Obligations.PupilFollowsPriority : Prop :=
  ∀ b : ButtonState,
    (b.left = true → b.up = true → selectPupil b = .leftUpPupil) ∧
    (b.left = true → b.down = true → b.up = false → selectPupil b = .leftDownPupil) ∧
    (b.right = true → b.up = true → b.left = false → selectPupil b = .rightUpPupil) ∧
    (b.right = true → b.down = true → b.left = false → b.up = false → selectPupil b = .rightDownPupil) ∧
    (b.left = true → b.up = false → b.down = false → selectPupil b = .leftPupil) ∧
    (b.right = true → b.left = false → b.up = false → b.down = false → selectPupil b = .rightPupil) ∧
    (b.up = true → b.left = false → b.right = false → selectPupil b = .upPupil) ∧
    (b.down = true → b.left = false → b.right = false → b.up = false → selectPupil b = .downPupil) ∧
    (b.left = false → b.up = false → b.down = false → b.right = false → selectPupil b = .centerPupil)

/-- R98: the pupil's colour. -/
def Obligations.ColorFollowsPrecedence : Prop :=
  ∀ b : ButtonState,
    (b.startPlus = true → selectColor b = .off) ∧
    (b.startPlus = false → b.a = true → selectColor b = .green) ∧
    (b.startPlus = false → b.a = false → b.b = true → selectColor b = .yellow) ∧
    (b.startPlus = false → b.a = false → b.b = false → selectColor b = .red)

/-- R95: with every answer a success, the Handshake (after Init, R94) makes its transfers and sensor writes in order, the
diagnostic images between brightness and clear, and ends at Polling with BLINKCTR 0 and WIDX untouched. -/
def Obligations.HandshakeTranscript : Prop :=
  ∀ (s : State) (identify : Frame) (moreTransport moreActuator : List Bool) (moreSensor : List SensorAnswer),
    s.fatal = false → s.ropen = false → s.reqs = [] → s.host.pos = .openSensor →
    s.transportTape = List.replicate 8 true ++ moreTransport →
    s.sensorTape = identify.toList.map SensorAnswer.byte ++ moreSensor →
    s.actuatorTape = List.replicate ((diagImages (diagSequence s)).length + 4) true ++ moreActuator →
    ∃ n t, Host.Core.run Sys2Proof.core n s = .next t ∧
      t.host.pos = .poll ∧ t.host.blinkCtr = 0 ∧ t.fatal = false ∧ t.ropen = false ∧ t.reqs = [] ∧ t.widx = s.widx ∧
      t.txlog = s.txlog ++ [⟨[0x21], true⟩, ⟨[0x81], true⟩, ⟨[0xEF], true⟩] ++
        (diagImages (diagSequence s)).map (fun d => ⟨0x00 :: d.toList, true⟩) ++ [⟨List.replicate 17 0x00, true⟩] ∧
      t.host.sensorLog = s.host.sensorLog ++
        [⟨[0xF0, 0x55], true⟩, ⟨[0xFB, 0x00], true⟩, ⟨[0xFA, 0x00], true⟩, ⟨[0x00], true⟩]

/-- R96: each answer of the sensor becomes its request. -/
def Obligations.PollTurnsReadIntoRequest : Prop :=
  ∀ (s : State) (a : SensorAnswer) (more : List SensorAnswer),
    s.fatal = false → s.reqs = [] → s.host.pos = .poll → s.sensorTape = a :: more →
    step s = .next { s with
      sensorTape := more, host := { s.host with pos := .outputs }, frameOut := none, buttonsOut := none,
      reqs := match a with
        | .byte b => [0x01, b]
        | .empty => [0x02]
        | .ioError => [0x03] }

/-- R100, R96, R101: in an iteration that completed a frame, Select/Minus advances BLINKCTR by 1 modulo 4 and issues SET_BLINK
with its new value before the render; without it neither happens. An iteration that completed none goes to the sleep: nothing
is issued, rendered or acknowledged, and BLINKCTR is kept. -/
def Obligations.SelectAdvancesBlinkCounter : Prop :=
  (∀ (s : State) (f : Frame) (btn : ButtonState),
    s.fatal = false → s.reqs = [] → s.host.pos = .outputs → s.frameOut = some f → s.buttonsOut = some btn →
    ∃ t, step s = .next t ∧ t.host.pos = .render (selectPupil btn) (selectColor btn) ∧
      t.host.sensorLog = s.host.sensorLog ∧ t.txlog = s.txlog ∧
      (btn.selectMinus = true → t.host.blinkCtr.toNat = (s.host.blinkCtr.toNat + 1) % 4 ∧
        t.reqs = [0x12, BitVec.ofNat 8 ((s.host.blinkCtr.toNat + 1) % 4)]) ∧
      (btn.selectMinus = false → t.host.blinkCtr = s.host.blinkCtr ∧ t.reqs = [])) ∧
  ∀ s : State, s.fatal = false → s.reqs = [] → s.host.pos = .outputs → s.frameOut = none →
    step s = .next { s with host := { s.host with pos := .sleep }, frameOut := none, buttonsOut := none }

/-- R96, R99, R101: the render of a frame merges the outline in Green and the pupil in its colour, makes one display write,
and only then is the acknowledgment byte written to the sensor, once. -/
def Obligations.RenderThenAcknowledge : Prop :=
  ∀ (s : State) (pupil : GlyphName) (c : Color) (moreTransport moreActuator : List Bool),
    s.fatal = false → s.ropen = false → s.reqs = [] → s.host.pos = .render pupil c →
    s.actuatorTape = true :: moreActuator → s.transportTape = true :: moreTransport →
    ∃ t5 t6, Host.Core.run Sys2Proof.core 5 s = .next t5 ∧ Host.Core.run Sys2Proof.core 6 s = .next t6 ∧
      t5.txlog = s.txlog ++ [⟨renderBytes [(glyphLayer s .eyeball, .green), (glyphLayer s pupil, c)], true⟩] ∧
      t5.host.sensorLog = s.host.sensorLog ∧
      t6.txlog = t5.txlog ∧ t6.host.sensorLog = s.host.sensorLog ++ [⟨[0x00], true⟩] ∧ t6.host.pos = .sleep

/-- R103: every transport failure ends the run. The host's own opens, address selects, sensor writes and identify reads end its
process; a failed read of Polling is presented as FEED_ERROR and halts the block, as every fatal fault of the block (a failed
actuator transfer among them) does; after either end there is no step. -/
def Obligations.TransportFailureEndsTheRun : Prop :=
  (∀ s : State, s.fatal = false → s.reqs = [] → transportAnswer s = false →
    s.host.pos ∈ [.openSensor, .openActuator, .selectSensor, .selectActuator, .encryptFirst, .encryptSecond, .identify,
      .handshakeAck, .ack] → EndsRun s) ∧
  (∀ (s : State) (got : Fin 6), s.fatal = false → s.reqs = [] → sensorAnswer s = .ioError →
    s.host.pos = .identifyRead got → EndsRun s) ∧
  (∀ s : State, s.fatal = false → s.reqs = [] → sensorAnswer s = .ioError → s.host.pos = .poll →
    ∃ t u, step s = .next t ∧ step t = .next u ∧ u.fatal = true ∧ u.cause = 0x01 ∧ u.txlog = s.txlog) ∧
  (∀ s : State, s.fatal = true → step s = .fault .halted) ∧
  ∀ s : State, s.fatal = false → s.reqs = [] → s.host.pos = .exited → step s = .fault .hostExited

/-- The reference host's invariant is kept by every step: what it has pending is whole requests in well-bracketed order
(R105, R128), and it acknowledges only behind a RENDER_COMMIT (R101). -/
def Obligations.HostInvariantKeptByStep : Prop :=
  ∀ s t : State, HostInv s → step s = .next t → HostInv t

/-- Both invariants hold after reset. -/
def Obligations.InvariantsHoldAtReset : Prop :=
  BlockInv State.reset ∧ HostInv State.reset

/-- R105, R128: under the reference host the block never faults for sequencing or for an illegal request. -/
def Obligations.ReferenceHostNeverMissequences : Prop :=
  ∀ s t : State, HostInv s → s.fatal = false → step s = .next t → t.fatal = true → t.cause = 0x01 ∨ t.cause = 0x02

/-- R101, R125: the acknowledgment is written only when the last transfer is a successful display write and no request is
pending. -/
def Obligations.AcknowledgmentFollowsTheRender : Prop :=
  ∀ s t : State, HostInv s → step s = .next t → s.host.pos = .ack → t.host.sensorLog ≠ s.host.sensorLog →
    s.reqs = [] ∧ lastWasDisplayWrite s.txlog ∧ ∃ ok : Bool, t.host.sensorLog = s.host.sensorLog ++ [⟨[0x00], ok⟩]
end

