-- ==== Sys2Proof/Laws/State.lean ====
section
/-! SUPPORT. What each named update of the state leaves in each field, so that no later proof unfolds a record update. -/

namespace Sys2Proof.Machine

@[simp] theorem clearOutputs_fb (s : State) : (clearOutputs s).fb = s.fb := rfl
@[simp] theorem clearOutputs_widx (s : State) : (clearOutputs s).widx = s.widx := rfl
@[simp] theorem clearOutputs_wb (s : State) : (clearOutputs s).wb = s.wb := rfl
@[simp] theorem clearOutputs_ropen (s : State) : (clearOutputs s).ropen = s.ropen := rfl
@[simp] theorem clearOutputs_fatal (s : State) : (clearOutputs s).fatal = s.fatal := rfl
@[simp] theorem clearOutputs_cause (s : State) : (clearOutputs s).cause = s.cause := rfl
@[simp] theorem clearOutputs_txlog (s : State) : (clearOutputs s).txlog = s.txlog := rfl
@[simp] theorem clearOutputs_frameOut (s : State) : (clearOutputs s).frameOut = none := rfl
@[simp] theorem clearOutputs_buttonsOut (s : State) : (clearOutputs s).buttonsOut = none := rfl
@[simp] theorem clearOutputs_btnMap (s : State) : (clearOutputs s).btnMap = s.btnMap := rfl
@[simp] theorem clearOutputs_host (s : State) : (clearOutputs s).host = s.host := rfl
@[simp] theorem clearOutputs_reqs (s : State) : (clearOutputs s).reqs = s.reqs := rfl
@[simp] theorem clearOutputs_actuatorTape (s : State) : (clearOutputs s).actuatorTape = s.actuatorTape := rfl
@[simp] theorem clearOutputs_sensorTape (s : State) : (clearOutputs s).sensorTape = s.sensorTape := rfl
@[simp] theorem clearOutputs_transportTape (s : State) : (clearOutputs s).transportTape = s.transportTape := rfl
@[simp] theorem clearOutputs_draws (s : State) : (clearOutputs s).draws = s.draws := rfl

@[simp] theorem putOutputs_fb (f : Frame) (st : ButtonState) (s : State) : (putOutputs f st s).fb = s.fb := rfl
@[simp] theorem putOutputs_widx (f : Frame) (st : ButtonState) (s : State) : (putOutputs f st s).widx = s.widx := rfl
@[simp] theorem putOutputs_wb (f : Frame) (st : ButtonState) (s : State) : (putOutputs f st s).wb = s.wb := rfl
@[simp] theorem putOutputs_ropen (f : Frame) (st : ButtonState) (s : State) : (putOutputs f st s).ropen = s.ropen := rfl
@[simp] theorem putOutputs_fatal (f : Frame) (st : ButtonState) (s : State) : (putOutputs f st s).fatal = s.fatal := rfl
@[simp] theorem putOutputs_cause (f : Frame) (st : ButtonState) (s : State) : (putOutputs f st s).cause = s.cause := rfl
@[simp] theorem putOutputs_txlog (f : Frame) (st : ButtonState) (s : State) : (putOutputs f st s).txlog = s.txlog := rfl
@[simp] theorem putOutputs_frameOut (f : Frame) (st : ButtonState) (s : State) : (putOutputs f st s).frameOut = some f := rfl
@[simp] theorem putOutputs_buttonsOut (f : Frame) (st : ButtonState) (s : State) : (putOutputs f st s).buttonsOut = some st := rfl
@[simp] theorem putOutputs_btnMap (f : Frame) (st : ButtonState) (s : State) : (putOutputs f st s).btnMap = s.btnMap := rfl
@[simp] theorem putOutputs_host (f : Frame) (st : ButtonState) (s : State) : (putOutputs f st s).host = s.host := rfl
@[simp] theorem putOutputs_reqs (f : Frame) (st : ButtonState) (s : State) : (putOutputs f st s).reqs = s.reqs := rfl
@[simp] theorem putOutputs_actuatorTape (f : Frame) (st : ButtonState) (s : State) : (putOutputs f st s).actuatorTape = s.actuatorTape := rfl
@[simp] theorem putOutputs_sensorTape (f : Frame) (st : ButtonState) (s : State) : (putOutputs f st s).sensorTape = s.sensorTape := rfl
@[simp] theorem putOutputs_transportTape (f : Frame) (st : ButtonState) (s : State) : (putOutputs f st s).transportTape = s.transportTape := rfl
@[simp] theorem putOutputs_draws (f : Frame) (st : ButtonState) (s : State) : (putOutputs f st s).draws = s.draws := rfl

@[simp] theorem raiseFatal_fb (c : Cause) (s : State) : (raiseFatal c s).fb = s.fb := rfl
@[simp] theorem raiseFatal_widx (c : Cause) (s : State) : (raiseFatal c s).widx = s.widx := rfl
@[simp] theorem raiseFatal_wb (c : Cause) (s : State) : (raiseFatal c s).wb = s.wb := rfl
@[simp] theorem raiseFatal_ropen (c : Cause) (s : State) : (raiseFatal c s).ropen = s.ropen := rfl
@[simp] theorem raiseFatal_fatal (c : Cause) (s : State) : (raiseFatal c s).fatal = true := rfl
@[simp] theorem raiseFatal_cause (c : Cause) (s : State) : (raiseFatal c s).cause = causeCode c := rfl
@[simp] theorem raiseFatal_txlog (c : Cause) (s : State) : (raiseFatal c s).txlog = s.txlog := rfl
@[simp] theorem raiseFatal_frameOut (c : Cause) (s : State) : (raiseFatal c s).frameOut = none := rfl
@[simp] theorem raiseFatal_buttonsOut (c : Cause) (s : State) : (raiseFatal c s).buttonsOut = none := rfl
@[simp] theorem raiseFatal_btnMap (c : Cause) (s : State) : (raiseFatal c s).btnMap = s.btnMap := rfl
@[simp] theorem raiseFatal_host (c : Cause) (s : State) : (raiseFatal c s).host = s.host := rfl
@[simp] theorem raiseFatal_reqs (c : Cause) (s : State) : (raiseFatal c s).reqs = s.reqs := rfl
@[simp] theorem raiseFatal_actuatorTape (c : Cause) (s : State) : (raiseFatal c s).actuatorTape = s.actuatorTape := rfl
@[simp] theorem raiseFatal_sensorTape (c : Cause) (s : State) : (raiseFatal c s).sensorTape = s.sensorTape := rfl
@[simp] theorem raiseFatal_transportTape (c : Cause) (s : State) : (raiseFatal c s).transportTape = s.transportTape := rfl
@[simp] theorem raiseFatal_draws (c : Cause) (s : State) : (raiseFatal c s).draws = s.draws := rfl

@[simp] theorem withRequests_fb (rest : List Byte) (s : State) : (withRequests rest s).fb = s.fb := rfl
@[simp] theorem withRequests_widx (rest : List Byte) (s : State) : (withRequests rest s).widx = s.widx := rfl
@[simp] theorem withRequests_wb (rest : List Byte) (s : State) : (withRequests rest s).wb = s.wb := rfl
@[simp] theorem withRequests_ropen (rest : List Byte) (s : State) : (withRequests rest s).ropen = s.ropen := rfl
@[simp] theorem withRequests_fatal (rest : List Byte) (s : State) : (withRequests rest s).fatal = s.fatal := rfl
@[simp] theorem withRequests_cause (rest : List Byte) (s : State) : (withRequests rest s).cause = s.cause := rfl
@[simp] theorem withRequests_txlog (rest : List Byte) (s : State) : (withRequests rest s).txlog = s.txlog := rfl
@[simp] theorem withRequests_frameOut (rest : List Byte) (s : State) : (withRequests rest s).frameOut = s.frameOut := rfl
@[simp] theorem withRequests_buttonsOut (rest : List Byte) (s : State) : (withRequests rest s).buttonsOut = s.buttonsOut := rfl
@[simp] theorem withRequests_btnMap (rest : List Byte) (s : State) : (withRequests rest s).btnMap = s.btnMap := rfl
@[simp] theorem withRequests_host (rest : List Byte) (s : State) : (withRequests rest s).host = s.host := rfl
@[simp] theorem withRequests_reqs (rest : List Byte) (s : State) : (withRequests rest s).reqs = rest := rfl
@[simp] theorem withRequests_actuatorTape (rest : List Byte) (s : State) : (withRequests rest s).actuatorTape = s.actuatorTape := rfl
@[simp] theorem withRequests_sensorTape (rest : List Byte) (s : State) : (withRequests rest s).sensorTape = s.sensorTape := rfl
@[simp] theorem withRequests_transportTape (rest : List Byte) (s : State) : (withRequests rest s).transportTape = s.transportTape := rfl
@[simp] theorem withRequests_draws (rest : List Byte) (s : State) : (withRequests rest s).draws = s.draws := rfl

@[simp] theorem present_fb (is : List Instr) (s : State) : (present is s).fb = s.fb := rfl
@[simp] theorem present_widx (is : List Instr) (s : State) : (present is s).widx = s.widx := rfl
@[simp] theorem present_wb (is : List Instr) (s : State) : (present is s).wb = s.wb := rfl
@[simp] theorem present_ropen (is : List Instr) (s : State) : (present is s).ropen = s.ropen := rfl
@[simp] theorem present_fatal (is : List Instr) (s : State) : (present is s).fatal = s.fatal := rfl
@[simp] theorem present_cause (is : List Instr) (s : State) : (present is s).cause = s.cause := rfl
@[simp] theorem present_txlog (is : List Instr) (s : State) : (present is s).txlog = s.txlog := rfl
@[simp] theorem present_frameOut (is : List Instr) (s : State) : (present is s).frameOut = s.frameOut := rfl
@[simp] theorem present_buttonsOut (is : List Instr) (s : State) : (present is s).buttonsOut = s.buttonsOut := rfl
@[simp] theorem present_btnMap (is : List Instr) (s : State) : (present is s).btnMap = s.btnMap := rfl
@[simp] theorem present_host (is : List Instr) (s : State) : (present is s).host = s.host := rfl
@[simp] theorem present_reqs (is : List Instr) (s : State) : (present is s).reqs = s.reqs ++ encodeAll is := rfl
@[simp] theorem present_actuatorTape (is : List Instr) (s : State) : (present is s).actuatorTape = s.actuatorTape := rfl
@[simp] theorem present_sensorTape (is : List Instr) (s : State) : (present is s).sensorTape = s.sensorTape := rfl
@[simp] theorem present_transportTape (is : List Instr) (s : State) : (present is s).transportTape = s.transportTape := rfl
@[simp] theorem present_draws (is : List Instr) (s : State) : (present is s).draws = s.draws := rfl

@[simp] theorem mergeInto_fb (layer : Layer) (c : Color) (s : State) : (mergeInto layer c s).fb = s.fb := rfl
@[simp] theorem mergeInto_widx (layer : Layer) (c : Color) (s : State) : (mergeInto layer c s).widx = s.widx := rfl
@[simp] theorem mergeInto_wb (layer : Layer) (c : Color) (s : State) : (mergeInto layer c s).wb = mergeLayer s.wb layer c := rfl
@[simp] theorem mergeInto_ropen (layer : Layer) (c : Color) (s : State) : (mergeInto layer c s).ropen = s.ropen := rfl
@[simp] theorem mergeInto_fatal (layer : Layer) (c : Color) (s : State) : (mergeInto layer c s).fatal = s.fatal := rfl
@[simp] theorem mergeInto_cause (layer : Layer) (c : Color) (s : State) : (mergeInto layer c s).cause = s.cause := rfl
@[simp] theorem mergeInto_txlog (layer : Layer) (c : Color) (s : State) : (mergeInto layer c s).txlog = s.txlog := rfl
@[simp] theorem mergeInto_frameOut (layer : Layer) (c : Color) (s : State) : (mergeInto layer c s).frameOut = s.frameOut := rfl
@[simp] theorem mergeInto_buttonsOut (layer : Layer) (c : Color) (s : State) : (mergeInto layer c s).buttonsOut = s.buttonsOut := rfl
@[simp] theorem mergeInto_btnMap (layer : Layer) (c : Color) (s : State) : (mergeInto layer c s).btnMap = s.btnMap := rfl
@[simp] theorem mergeInto_host (layer : Layer) (c : Color) (s : State) : (mergeInto layer c s).host = s.host := rfl
@[simp] theorem mergeInto_reqs (layer : Layer) (c : Color) (s : State) : (mergeInto layer c s).reqs = s.reqs := rfl
@[simp] theorem mergeInto_actuatorTape (layer : Layer) (c : Color) (s : State) : (mergeInto layer c s).actuatorTape = s.actuatorTape := rfl
@[simp] theorem mergeInto_sensorTape (layer : Layer) (c : Color) (s : State) : (mergeInto layer c s).sensorTape = s.sensorTape := rfl
@[simp] theorem mergeInto_transportTape (layer : Layer) (c : Color) (s : State) : (mergeInto layer c s).transportTape = s.transportTape := rfl
@[simp] theorem mergeInto_draws (layer : Layer) (c : Color) (s : State) : (mergeInto layer c s).draws = s.draws := rfl

@[simp] theorem openRender_fb (s : State) : (openRender s).fb = s.fb := rfl
@[simp] theorem openRender_widx (s : State) : (openRender s).widx = s.widx := rfl
@[simp] theorem openRender_wb (s : State) : (openRender s).wb = Vector.replicate 17 0x00 := rfl
@[simp] theorem openRender_ropen (s : State) : (openRender s).ropen = true := rfl
@[simp] theorem openRender_fatal (s : State) : (openRender s).fatal = s.fatal := rfl
@[simp] theorem openRender_cause (s : State) : (openRender s).cause = s.cause := rfl
@[simp] theorem openRender_txlog (s : State) : (openRender s).txlog = s.txlog := rfl
@[simp] theorem openRender_frameOut (s : State) : (openRender s).frameOut = s.frameOut := rfl
@[simp] theorem openRender_buttonsOut (s : State) : (openRender s).buttonsOut = s.buttonsOut := rfl
@[simp] theorem openRender_btnMap (s : State) : (openRender s).btnMap = s.btnMap := rfl
@[simp] theorem openRender_host (s : State) : (openRender s).host = s.host := rfl
@[simp] theorem openRender_reqs (s : State) : (openRender s).reqs = s.reqs := rfl
@[simp] theorem openRender_actuatorTape (s : State) : (openRender s).actuatorTape = s.actuatorTape := rfl
@[simp] theorem openRender_sensorTape (s : State) : (openRender s).sensorTape = s.sensorTape := rfl
@[simp] theorem openRender_transportTape (s : State) : (openRender s).transportTape = s.transportTape := rfl
@[simp] theorem openRender_draws (s : State) : (openRender s).draws = s.draws := rfl

@[simp] theorem closeRender_fb (s : State) : (closeRender s).fb = s.fb := rfl
@[simp] theorem closeRender_widx (s : State) : (closeRender s).widx = s.widx := rfl
@[simp] theorem closeRender_wb (s : State) : (closeRender s).wb = s.wb := rfl
@[simp] theorem closeRender_ropen (s : State) : (closeRender s).ropen = false := rfl
@[simp] theorem closeRender_fatal (s : State) : (closeRender s).fatal = s.fatal := rfl
@[simp] theorem closeRender_cause (s : State) : (closeRender s).cause = s.cause := rfl
@[simp] theorem closeRender_txlog (s : State) : (closeRender s).txlog = s.txlog := rfl
@[simp] theorem closeRender_frameOut (s : State) : (closeRender s).frameOut = s.frameOut := rfl
@[simp] theorem closeRender_buttonsOut (s : State) : (closeRender s).buttonsOut = s.buttonsOut := rfl
@[simp] theorem closeRender_btnMap (s : State) : (closeRender s).btnMap = s.btnMap := rfl
@[simp] theorem closeRender_host (s : State) : (closeRender s).host = s.host := rfl
@[simp] theorem closeRender_reqs (s : State) : (closeRender s).reqs = s.reqs := rfl
@[simp] theorem closeRender_actuatorTape (s : State) : (closeRender s).actuatorTape = s.actuatorTape := rfl
@[simp] theorem closeRender_sensorTape (s : State) : (closeRender s).sensorTape = s.sensorTape := rfl
@[simp] theorem closeRender_transportTape (s : State) : (closeRender s).transportTape = s.transportTape := rfl
@[simp] theorem closeRender_draws (s : State) : (closeRender s).draws = s.draws := rfl

@[simp] theorem hostAt_fb (p : HostPos) (s : State) : (hostAt p s).fb = s.fb := rfl
@[simp] theorem hostAt_widx (p : HostPos) (s : State) : (hostAt p s).widx = s.widx := rfl
@[simp] theorem hostAt_wb (p : HostPos) (s : State) : (hostAt p s).wb = s.wb := rfl
@[simp] theorem hostAt_ropen (p : HostPos) (s : State) : (hostAt p s).ropen = s.ropen := rfl
@[simp] theorem hostAt_fatal (p : HostPos) (s : State) : (hostAt p s).fatal = s.fatal := rfl
@[simp] theorem hostAt_cause (p : HostPos) (s : State) : (hostAt p s).cause = s.cause := rfl
@[simp] theorem hostAt_txlog (p : HostPos) (s : State) : (hostAt p s).txlog = s.txlog := rfl
@[simp] theorem hostAt_frameOut (p : HostPos) (s : State) : (hostAt p s).frameOut = s.frameOut := rfl
@[simp] theorem hostAt_buttonsOut (p : HostPos) (s : State) : (hostAt p s).buttonsOut = s.buttonsOut := rfl
@[simp] theorem hostAt_btnMap (p : HostPos) (s : State) : (hostAt p s).btnMap = s.btnMap := rfl
@[simp] theorem hostAt_host (p : HostPos) (s : State) : (hostAt p s).host = { s.host with pos := p } := rfl
@[simp] theorem hostAt_reqs (p : HostPos) (s : State) : (hostAt p s).reqs = s.reqs := rfl
@[simp] theorem hostAt_actuatorTape (p : HostPos) (s : State) : (hostAt p s).actuatorTape = s.actuatorTape := rfl
@[simp] theorem hostAt_sensorTape (p : HostPos) (s : State) : (hostAt p s).sensorTape = s.sensorTape := rfl
@[simp] theorem hostAt_transportTape (p : HostPos) (s : State) : (hostAt p s).transportTape = s.transportTape := rfl
@[simp] theorem hostAt_draws (p : HostPos) (s : State) : (hostAt p s).draws = s.draws := rfl

@[simp] theorem logSensorWrite_fb (bytes : List Byte) (ok : Bool) (s : State) : (logSensorWrite bytes ok s).fb = s.fb := rfl
@[simp] theorem logSensorWrite_widx (bytes : List Byte) (ok : Bool) (s : State) : (logSensorWrite bytes ok s).widx = s.widx := rfl
@[simp] theorem logSensorWrite_wb (bytes : List Byte) (ok : Bool) (s : State) : (logSensorWrite bytes ok s).wb = s.wb := rfl
@[simp] theorem logSensorWrite_ropen (bytes : List Byte) (ok : Bool) (s : State) : (logSensorWrite bytes ok s).ropen = s.ropen := rfl
@[simp] theorem logSensorWrite_fatal (bytes : List Byte) (ok : Bool) (s : State) : (logSensorWrite bytes ok s).fatal = s.fatal := rfl
@[simp] theorem logSensorWrite_cause (bytes : List Byte) (ok : Bool) (s : State) : (logSensorWrite bytes ok s).cause = s.cause := rfl
@[simp] theorem logSensorWrite_txlog (bytes : List Byte) (ok : Bool) (s : State) : (logSensorWrite bytes ok s).txlog = s.txlog := rfl
@[simp] theorem logSensorWrite_frameOut (bytes : List Byte) (ok : Bool) (s : State) : (logSensorWrite bytes ok s).frameOut = s.frameOut := rfl
@[simp] theorem logSensorWrite_buttonsOut (bytes : List Byte) (ok : Bool) (s : State) : (logSensorWrite bytes ok s).buttonsOut = s.buttonsOut := rfl
@[simp] theorem logSensorWrite_btnMap (bytes : List Byte) (ok : Bool) (s : State) : (logSensorWrite bytes ok s).btnMap = s.btnMap := rfl
@[simp] theorem logSensorWrite_host (bytes : List Byte) (ok : Bool) (s : State) : (logSensorWrite bytes ok s).host = { s.host with sensorLog := s.host.sensorLog ++ [⟨bytes, ok⟩] } := rfl
@[simp] theorem logSensorWrite_reqs (bytes : List Byte) (ok : Bool) (s : State) : (logSensorWrite bytes ok s).reqs = s.reqs := rfl
@[simp] theorem logSensorWrite_actuatorTape (bytes : List Byte) (ok : Bool) (s : State) : (logSensorWrite bytes ok s).actuatorTape = s.actuatorTape := rfl
@[simp] theorem logSensorWrite_sensorTape (bytes : List Byte) (ok : Bool) (s : State) : (logSensorWrite bytes ok s).sensorTape = s.sensorTape := rfl
@[simp] theorem logSensorWrite_transportTape (bytes : List Byte) (ok : Bool) (s : State) : (logSensorWrite bytes ok s).transportTape = s.transportTape := rfl
@[simp] theorem logSensorWrite_draws (bytes : List Byte) (ok : Bool) (s : State) : (logSensorWrite bytes ok s).draws = s.draws := rfl

@[simp] theorem advanceBlink_fb (s : State) : (advanceBlink s).fb = s.fb := rfl
@[simp] theorem advanceBlink_widx (s : State) : (advanceBlink s).widx = s.widx := rfl
@[simp] theorem advanceBlink_wb (s : State) : (advanceBlink s).wb = s.wb := rfl
@[simp] theorem advanceBlink_ropen (s : State) : (advanceBlink s).ropen = s.ropen := rfl
@[simp] theorem advanceBlink_fatal (s : State) : (advanceBlink s).fatal = s.fatal := rfl
@[simp] theorem advanceBlink_cause (s : State) : (advanceBlink s).cause = s.cause := rfl
@[simp] theorem advanceBlink_txlog (s : State) : (advanceBlink s).txlog = s.txlog := rfl
@[simp] theorem advanceBlink_frameOut (s : State) : (advanceBlink s).frameOut = s.frameOut := rfl
@[simp] theorem advanceBlink_buttonsOut (s : State) : (advanceBlink s).buttonsOut = s.buttonsOut := rfl
@[simp] theorem advanceBlink_btnMap (s : State) : (advanceBlink s).btnMap = s.btnMap := rfl
@[simp] theorem advanceBlink_host (s : State) : (advanceBlink s).host = { s.host with blinkCtr := s.host.blinkCtr + 1 } := rfl
@[simp] theorem advanceBlink_reqs (s : State) : (advanceBlink s).reqs = s.reqs := rfl
@[simp] theorem advanceBlink_actuatorTape (s : State) : (advanceBlink s).actuatorTape = s.actuatorTape := rfl
@[simp] theorem advanceBlink_sensorTape (s : State) : (advanceBlink s).sensorTape = s.sensorTape := rfl
@[simp] theorem advanceBlink_transportTape (s : State) : (advanceBlink s).transportTape = s.transportTape := rfl
@[simp] theorem advanceBlink_draws (s : State) : (advanceBlink s).draws = s.draws := rfl

@[simp] theorem actuatorDrawn_fb (s : State) : (actuatorDrawn s).fb = s.fb := by
  unfold actuatorDrawn; split <;> rfl
@[simp] theorem actuatorDrawn_widx (s : State) : (actuatorDrawn s).widx = s.widx := by
  unfold actuatorDrawn; split <;> rfl
@[simp] theorem actuatorDrawn_wb (s : State) : (actuatorDrawn s).wb = s.wb := by
  unfold actuatorDrawn; split <;> rfl
@[simp] theorem actuatorDrawn_ropen (s : State) : (actuatorDrawn s).ropen = s.ropen := by
  unfold actuatorDrawn; split <;> rfl
@[simp] theorem actuatorDrawn_fatal (s : State) : (actuatorDrawn s).fatal = s.fatal := by
  unfold actuatorDrawn; split <;> rfl
@[simp] theorem actuatorDrawn_cause (s : State) : (actuatorDrawn s).cause = s.cause := by
  unfold actuatorDrawn; split <;> rfl
@[simp] theorem actuatorDrawn_txlog (s : State) : (actuatorDrawn s).txlog = s.txlog := by
  unfold actuatorDrawn; split <;> rfl
@[simp] theorem actuatorDrawn_frameOut (s : State) : (actuatorDrawn s).frameOut = s.frameOut := by
  unfold actuatorDrawn; split <;> rfl
@[simp] theorem actuatorDrawn_buttonsOut (s : State) : (actuatorDrawn s).buttonsOut = s.buttonsOut := by
  unfold actuatorDrawn; split <;> rfl
@[simp] theorem actuatorDrawn_btnMap (s : State) : (actuatorDrawn s).btnMap = s.btnMap := by
  unfold actuatorDrawn; split <;> rfl
@[simp] theorem actuatorDrawn_host (s : State) : (actuatorDrawn s).host = s.host := by
  unfold actuatorDrawn; split <;> rfl
@[simp] theorem actuatorDrawn_reqs (s : State) : (actuatorDrawn s).reqs = s.reqs := by
  unfold actuatorDrawn; split <;> rfl
@[simp] theorem actuatorDrawn_sensorTape (s : State) : (actuatorDrawn s).sensorTape = s.sensorTape := by
  unfold actuatorDrawn; split <;> rfl
@[simp] theorem actuatorDrawn_transportTape (s : State) : (actuatorDrawn s).transportTape = s.transportTape := by
  unfold actuatorDrawn; split <;> rfl
@[simp] theorem actuatorDrawn_actuatorTape (s : State) : (actuatorDrawn s).actuatorTape = s.actuatorTape.tail := by
  unfold actuatorDrawn; split <;> simp_all

@[simp] theorem transportDrawn_fb (s : State) : (transportDrawn s).fb = s.fb := by
  unfold transportDrawn; split <;> rfl
@[simp] theorem transportDrawn_widx (s : State) : (transportDrawn s).widx = s.widx := by
  unfold transportDrawn; split <;> rfl
@[simp] theorem transportDrawn_wb (s : State) : (transportDrawn s).wb = s.wb := by
  unfold transportDrawn; split <;> rfl
@[simp] theorem transportDrawn_ropen (s : State) : (transportDrawn s).ropen = s.ropen := by
  unfold transportDrawn; split <;> rfl
@[simp] theorem transportDrawn_fatal (s : State) : (transportDrawn s).fatal = s.fatal := by
  unfold transportDrawn; split <;> rfl
@[simp] theorem transportDrawn_cause (s : State) : (transportDrawn s).cause = s.cause := by
  unfold transportDrawn; split <;> rfl
@[simp] theorem transportDrawn_txlog (s : State) : (transportDrawn s).txlog = s.txlog := by
  unfold transportDrawn; split <;> rfl
@[simp] theorem transportDrawn_frameOut (s : State) : (transportDrawn s).frameOut = s.frameOut := by
  unfold transportDrawn; split <;> rfl
@[simp] theorem transportDrawn_buttonsOut (s : State) : (transportDrawn s).buttonsOut = s.buttonsOut := by
  unfold transportDrawn; split <;> rfl
@[simp] theorem transportDrawn_btnMap (s : State) : (transportDrawn s).btnMap = s.btnMap := by
  unfold transportDrawn; split <;> rfl
@[simp] theorem transportDrawn_host (s : State) : (transportDrawn s).host = s.host := by
  unfold transportDrawn; split <;> rfl
@[simp] theorem transportDrawn_reqs (s : State) : (transportDrawn s).reqs = s.reqs := by
  unfold transportDrawn; split <;> rfl
@[simp] theorem transportDrawn_actuatorTape (s : State) : (transportDrawn s).actuatorTape = s.actuatorTape := by
  unfold transportDrawn; split <;> rfl
@[simp] theorem transportDrawn_sensorTape (s : State) : (transportDrawn s).sensorTape = s.sensorTape := by
  unfold transportDrawn; split <;> rfl
@[simp] theorem transportDrawn_transportTape (s : State) : (transportDrawn s).transportTape = s.transportTape.tail := by
  unfold transportDrawn; split <;> simp_all

@[simp] theorem sensorDrawn_fb (s : State) : (sensorDrawn s).fb = s.fb := by
  unfold sensorDrawn; split <;> rfl
@[simp] theorem sensorDrawn_widx (s : State) : (sensorDrawn s).widx = s.widx := by
  unfold sensorDrawn; split <;> rfl
@[simp] theorem sensorDrawn_wb (s : State) : (sensorDrawn s).wb = s.wb := by
  unfold sensorDrawn; split <;> rfl
@[simp] theorem sensorDrawn_ropen (s : State) : (sensorDrawn s).ropen = s.ropen := by
  unfold sensorDrawn; split <;> rfl
@[simp] theorem sensorDrawn_fatal (s : State) : (sensorDrawn s).fatal = s.fatal := by
  unfold sensorDrawn; split <;> rfl
@[simp] theorem sensorDrawn_cause (s : State) : (sensorDrawn s).cause = s.cause := by
  unfold sensorDrawn; split <;> rfl
@[simp] theorem sensorDrawn_txlog (s : State) : (sensorDrawn s).txlog = s.txlog := by
  unfold sensorDrawn; split <;> rfl
@[simp] theorem sensorDrawn_frameOut (s : State) : (sensorDrawn s).frameOut = s.frameOut := by
  unfold sensorDrawn; split <;> rfl
@[simp] theorem sensorDrawn_buttonsOut (s : State) : (sensorDrawn s).buttonsOut = s.buttonsOut := by
  unfold sensorDrawn; split <;> rfl
@[simp] theorem sensorDrawn_btnMap (s : State) : (sensorDrawn s).btnMap = s.btnMap := by
  unfold sensorDrawn; split <;> rfl
@[simp] theorem sensorDrawn_host (s : State) : (sensorDrawn s).host = s.host := by
  unfold sensorDrawn; split <;> rfl
@[simp] theorem sensorDrawn_reqs (s : State) : (sensorDrawn s).reqs = s.reqs := by
  unfold sensorDrawn; split <;> rfl
@[simp] theorem sensorDrawn_actuatorTape (s : State) : (sensorDrawn s).actuatorTape = s.actuatorTape := by
  unfold sensorDrawn; split <;> rfl
@[simp] theorem sensorDrawn_transportTape (s : State) : (sensorDrawn s).transportTape = s.transportTape := by
  unfold sensorDrawn; split <;> rfl
@[simp] theorem sensorDrawn_sensorTape (s : State) : (sensorDrawn s).sensorTape = s.sensorTape.tail := by
  unfold sensorDrawn; split <;> simp_all

@[simp] theorem emit_fb (seq : List Byte) (s : State) : (emit seq s).fb = s.fb := by
  simp [emit]
@[simp] theorem emit_widx (seq : List Byte) (s : State) : (emit seq s).widx = s.widx := by
  simp [emit]
@[simp] theorem emit_wb (seq : List Byte) (s : State) : (emit seq s).wb = s.wb := by
  simp [emit]
@[simp] theorem emit_ropen (seq : List Byte) (s : State) : (emit seq s).ropen = s.ropen := by
  simp [emit]
@[simp] theorem emit_fatal (seq : List Byte) (s : State) : (emit seq s).fatal = s.fatal := by
  simp [emit]
@[simp] theorem emit_cause (seq : List Byte) (s : State) : (emit seq s).cause = s.cause := by
  simp [emit]
@[simp] theorem emit_txlog (seq : List Byte) (s : State) :
    (emit seq s).txlog = s.txlog ++ [⟨seq, actuatorAnswer s⟩] := rfl
@[simp] theorem emit_frameOut (seq : List Byte) (s : State) : (emit seq s).frameOut = s.frameOut := by
  simp [emit]
@[simp] theorem emit_buttonsOut (seq : List Byte) (s : State) : (emit seq s).buttonsOut = s.buttonsOut := by
  simp [emit]
@[simp] theorem emit_btnMap (seq : List Byte) (s : State) : (emit seq s).btnMap = s.btnMap := by
  simp [emit]
@[simp] theorem emit_host (seq : List Byte) (s : State) : (emit seq s).host = s.host := by
  simp [emit]
@[simp] theorem emit_reqs (seq : List Byte) (s : State) : (emit seq s).reqs = s.reqs := by
  simp [emit]
@[simp] theorem emit_actuatorTape (seq : List Byte) (s : State) : (emit seq s).actuatorTape = s.actuatorTape.tail := by
  simp [emit]
@[simp] theorem emit_sensorTape (seq : List Byte) (s : State) : (emit seq s).sensorTape = s.sensorTape := by
  simp [emit]
@[simp] theorem emit_transportTape (seq : List Byte) (s : State) : (emit seq s).transportTape = s.transportTape := by
  simp [emit]

@[simp] theorem actuatorAnswer_clearOutputs (s : State) : actuatorAnswer (clearOutputs s) = actuatorAnswer s := rfl

@[simp] theorem actuatorAnswer_withRequests (rest : List Byte) (s : State) :
    actuatorAnswer (withRequests rest s) = actuatorAnswer s := rfl

end Sys2Proof.Machine
end

