-- ==== Sys2Proof/Laws/Ops.lean ====
section
/-! SUPPORT. One lemma per shared operation that says everything it can do, and the form every request's meaning has. -/

namespace Sys2Proof.Machine

/-- Everything `perform` can answer (60_exceptions.md R108). -/
theorem perform_cases (need : Need) (act : State → State) (s : State) :
    (s.fatal = true ∧ perform need act s = .fault .halted) ∨
    (s.fatal = false ∧ ∃ c, sequencingFault need s.ropen = some c ∧ perform need act s = .next (raiseFatal c s)) ∨
    (s.fatal = false ∧ sequencingFault need s.ropen = none ∧ perform need act s = .next (act (clearOutputs s))) := by
  unfold perform
  cases hf : s.fatal <;> cases hq : sequencingFault need s.ropen <;> simp

theorem perform_halted {s : State} (need : Need) (act : State → State) (h : s.fatal = true) :
    perform need act s = .fault .halted := by
  simp [perform, h]

theorem perform_fault {s : State} {need : Need} {c : Cause} (act : State → State) (h : s.fatal = false)
    (hq : sequencingFault need s.ropen = some c) : perform need act s = .next (raiseFatal c s) := by
  simp [perform, h, hq]

theorem perform_action {s : State} {need : Need} (act : State → State) (h : s.fatal = false)
    (hq : sequencingFault need s.ropen = none) : perform need act s = .next (act (clearOutputs s)) := by
  simp [perform, h, hq]

@[simp] theorem sequencingFault_either (ropen : Bool) : sequencingFault .either ropen = none := rfl
@[simp] theorem sequencingFault_opened_true : sequencingFault .opened true = none := rfl
@[simp] theorem sequencingFault_opened_false : sequencingFault .opened false = some .seqNotOpen := rfl
@[simp] theorem sequencingFault_closed_true : sequencingFault .closed true = some .seqOpen := rfl
@[simp] theorem sequencingFault_closed_false : sequencingFault .closed false = none := rfl

/-- Everything `transfer` can do: the record joins TXLOG with the answer, and a failed one raises TX_IO_ERROR. -/
theorem transfer_cases (seq : List Byte) (rest : State → State) (s : State) :
    (actuatorAnswer s = true ∧
      transfer seq rest s = rest { actuatorDrawn s with txlog := s.txlog ++ [⟨seq, true⟩] }) ∨
    (actuatorAnswer s = false ∧
      transfer seq rest s = raiseFatal .txIoError { actuatorDrawn s with txlog := s.txlog ++ [⟨seq, false⟩] }) := by
  unfold transfer emit
  cases actuatorAnswer s <;> simp

/-- Everything `feedByte` can do (40_framer.md R61). -/
theorem feedByte_cases (b : Byte) (s : State) :
    (s.widx = 5 ∧ feedByte b s = { s with
        fb := s.fb.set 5 b, widx := 0, frameOut := some (s.fb.set 5 b),
        buttonsOut := some (decodeButtons s.btnMap (s.fb.set 5 b)) }) ∨
    (s.widx ≠ 5 ∧ feedByte b s = { s with fb := s.fb.set s.widx.val b, widx := s.widx + 1 }) := by
  unfold feedByte
  by_cases h : s.widx = 5
  · left
    refine ⟨h, ?_⟩
    simp [h, putOutputs]
  · right
    exact ⟨h, by simp [h]⟩

/-- What a request does once its checks have passed. -/
def requestAction (i : Instr) (s : State) : State :=
  match i with
  | .nop | .feedEmpty => s
  | .feed b => feedByte b s
  | .feedError => raiseFatal .rxIoError s
  | .oscOn => transfer oscOnTransfer (fun t => t) s
  | .setBrightness level => transfer (brightnessTransfer level) (fun t => t) s
  | .setBlink rate => transfer (blinkTransfer rate) (fun t => t) s
  | .clear => transfer clearTransfer (fun t => t) s
  | .renderBegin => openRender s
  | .renderCommit => transfer (bufferTransfer s.wb) closeRender s
  | .mergeOff l => mergeInto l .off s
  | .mergeG l => mergeInto l .green s
  | .mergeR l => mergeInto l .red s
  | .mergeY l => mergeInto l .yellow s
  | .writeRaw d => transfer (displayTransfer d) (fun t => t) s

/-- Every request is its sequencing check and then its action. -/
theorem exec_eq_perform (i : Instr) (s : State) : exec i s = perform (requestNeed i) (requestAction i) s := by
  cases i <;> rfl

/-- What an emitting request does after a successful transfer. -/
def afterTransfer (i : Instr) (s : State) : State :=
  if i = .renderCommit then closeRender s else s

/-- An emitting request is its transfer (60_exceptions.md R106, the row of TX_IO_ERROR). -/
theorem requestAction_of_emits {i : Instr} (h : emits i = true) (s : State) :
    requestAction i s = transfer (requestTransfer i s) (afterTransfer i) s := by
  cases i <;> first | (simp [emits] at h; done) | rfl

@[simp] theorem afterTransfer_fatal (i : Instr) (s : State) : (afterTransfer i s).fatal = s.fatal := by
  unfold afterTransfer; split <;> rfl

@[simp] theorem afterTransfer_cause (i : Instr) (s : State) : (afterTransfer i s).cause = s.cause := by
  unfold afterTransfer; split <;> rfl

@[simp] theorem afterTransfer_txlog (i : Instr) (s : State) : (afterTransfer i s).txlog = s.txlog := by
  unfold afterTransfer; split <;> rfl

/-- Everything an emitting request's action can do. -/
theorem emitting_cases {i : Instr} (h : emits i = true) (s : State) :
    (actuatorAnswer s = true ∧ requestAction i s =
      afterTransfer i { actuatorDrawn s with txlog := s.txlog ++ [⟨requestTransfer i s, true⟩] }) ∨
    (actuatorAnswer s = false ∧ requestAction i s =
      raiseFatal .txIoError { actuatorDrawn s with txlog := s.txlog ++ [⟨requestTransfer i s, false⟩] }) := by
  rw [requestAction_of_emits h]
  exact transfer_cases _ _ s

/-- Everything a step can be: a request performed, a move of the host, or a reserved opcode byte. -/
theorem step_cases {s t : State} (h : step s = .next t) :
    s.fatal = false ∧
      ((∃ i rest, decodeRequest s.reqs = .ok (i, rest) ∧ exec i (withRequests rest s) = .next t) ∨
        (decodeRequest s.reqs = .error .noRequest ∧ hostMove s = .next t) ∨
        ∃ op, decodeRequest s.reqs = .error (.reserved op) ∧ t = illegalRequest s) := by
  unfold step at h
  split at h
  · cases h
  · rename_i hf
    refine ⟨by simpa using hf, ?_⟩
    split at h
    · exact .inl ⟨_, _, by assumption, h⟩
    · exact .inr (.inl ⟨by assumption, h⟩)
    · cases h; exact .inr (.inr ⟨_, by assumption, rfl⟩)
    · cases h

/-- A move of the host is its action with no output of the block, and its process has not ended. -/
theorem hostMove_next {s t : State} (h : hostMove s = .next t) :
    s.host.pos ≠ .exited ∧ t = clearOutputs (hostAction s.host.pos s) := by
  unfold hostMove at h
  split at h
  · cases h
  · rename_i hp
    cases h
    exact ⟨hp, rfl⟩

/-- Down and B have one mask value and each its own byte, under every map (41_decoder.md R71). -/
theorem entry_down_b (m : ButtonMap) : m.entry .down = ⟨.byte4, m.downBMask⟩ ∧ m.entry .b = ⟨.byte5, m.downBMask⟩ :=
  ⟨rfl, rfl⟩

/-- A flag of a decoded frame is its entry's test (41_decoder.md R67). -/
@[simp] theorem buttonPressed_decodeButtons (m : ButtonMap) (f : Frame) (flag : Button) :
    buttonPressed (decodeButtons m f) flag = flagPressed (m.entry flag) f := by
  cases flag <;> rfl

/-- Down and B stay independent under every map whose shared mask is not 0x00 (41_decoder.md R71). -/
theorem down_and_b_independent (m : ButtonMap) (h : m.downBMask ≠ 0x00) (down b : Bool) :
    ∃ f : Frame, buttonPressed (decodeButtons m f) .down = down ∧ buttonPressed (decodeButtons m f) .b = b := by
  refine ⟨#v[0, 0, 0, 0, if down then 0x00 else 0xFF, if b then 0x00 else 0xFF], ?_⟩
  have hones : (255#8 &&& m.downBMask) = m.downBMask := BitVec.allOnes_and
  have hzero : ¬m.downBMask = 0#8 := h
  cases down <;> cases b <;> simp [flagPressed, frameButtonByte, entry_down_b, hones, hzero]

/-- A byte of a merged buffer (43_display_buffer.md R78). -/
theorem mergeLayer_getElem (wb : Buffer) (l : Layer) (c : Color) (k : Nat) (h : k < 17) :
    (mergeLayer wb l c)[k] = if selectsOffset c ⟨k, h⟩ then wb[k] ||| l[offsetRow ⟨k, h⟩] else wb[k] := by
  simp [mergeLayer]

@[simp] theorem offsetRow_greenOffset (r : Fin 8) : offsetRow (greenOffset r) = r := by
  ext; simp [offsetRow, greenOffset]

@[simp] theorem offsetRow_redOffset (r : Fin 8) : offsetRow (redOffset r) = r := by
  ext; simp only [offsetRow, redOffset]; omega

@[simp] theorem selectsOffset_greenOffset (c : Color) (r : Fin 8) : selectsOffset c (greenOffset r) = selectsGreen c := by
  simp [selectsOffset, greenOffset]

@[simp] theorem selectsOffset_redOffset (c : Color) (r : Fin 8) : selectsOffset c (redOffset r) = selectsRed c := by
  simp [selectsOffset, redOffset]

/-- The offsets are the address byte, the eight green planes and the eight red planes (20_memory.md R34). -/
theorem offset_cases (k : Fin 17) : k = 0 ∨ (∃ r, k = greenOffset r) ∨ ∃ r, k = redOffset r := by
  revert k; decide

/-- Taking an array's bytes back from a stream that begins with them. -/
@[simp] theorem takeBytes_append {n : Nat} (v : Vector Byte n) (rest : List Byte) :
    takeBytes n (v.toList ++ rest) = some (v, rest) := by
  have h : v.toList.length = n := by simp
  unfold takeBytes
  rw [dif_pos (by simp)]
  congr 2
  · ext i hi
    simp [Vector.getElem_mk]
  · rw [List.drop_append, h, List.drop_of_length_le (by omega)]; simp

/-- What `takeBytes` takes stood at the front of the stream. -/
theorem takeBytes_some {n : Nat} {bs : List Byte} {v : Vector Byte n} {rest : List Byte}
    (h : takeBytes n bs = some (v, rest)) : bs = v.toList ++ rest := by
  unfold takeBytes at h
  split at h
  · simp only [Option.some.injEq, Prod.mk.injEq] at h
    obtain ⟨rfl, rfl⟩ := h
    simp [Vector.toList]
  · cases h

@[simp] theorem encodeAll_nil : encodeAll [] = [] := rfl

@[simp] theorem encodeAll_cons (i : Instr) (is : List Instr) : encodeAll (i :: is) = encode i ++ encodeAll is := rfl

@[simp] theorem encodeAll_append (is js : List Instr) : encodeAll (is ++ js) = encodeAll is ++ encodeAll js := by
  simp [encodeAll]

/-- No two rows of the opcode map claim one byte (30_encoding.md R52). -/
theorem opcodeMap_no_overlap :
    opcodeMap.Pairwise fun x y => ¬(x.value &&& y.mask = y.value &&& x.mask) := by
  decide

end Sys2Proof.Machine
end

