-- ==== Sys2Proof/Laws/PerInstr.lean ====
section
/-! SUPPORT. Statements made for every request, one lemma per constructor: the bytes of a request are a well-formed
request, of the length its opcode byte gives (30_encoding.md R48, R49). -/

/-- The request's bytes pass the checks of WellFormed.lean, and no request is longer than the longest format. -/
def Sys2Proof.Laws.Formed.Statement (i : Sys2Proof.Instr) : Prop :=
  Sys2Proof.instrWellFormed i = true ∧ (Sys2Proof.encode i).length ≤ Sys2Proof.longestRequest

/-- A listed opcode byte followed by as many bytes as its format has operands. -/
theorem Sys2Proof.Laws.formed_of_bytes (i : Sys2Proof.Instr) (op : Sys2Proof.Byte) (operands : List Sys2Proof.Byte)
    (he : Sys2Proof.encode i = op :: operands) (hop : Sys2Proof.opcodeListed op = true)
    (hlen : operands.length + 1 = Sys2Proof.requestLength op) (hmax : operands.length ≤ 16) :
    Sys2Proof.Laws.Formed.Statement i := by
  refine ⟨?_, ?_⟩
  · simp [Sys2Proof.instrWellFormed, Sys2Proof.requestWellFormed, he, hop, hlen]
  · simp [he, Sys2Proof.longestRequest]; omega

theorem Sys2Proof.Laws.Formed.nop :
    Sys2Proof.Laws.Formed.Statement .nop :=
  Sys2Proof.Laws.formed_of_bytes _ 0x00 [] rfl rfl rfl (by simp)

theorem Sys2Proof.Laws.Formed.feed (b : Sys2Proof.Byte) :
    Sys2Proof.Laws.Formed.Statement (.feed b) :=
  Sys2Proof.Laws.formed_of_bytes _ 0x01 [b] rfl rfl rfl (by simp)

theorem Sys2Proof.Laws.Formed.feedEmpty :
    Sys2Proof.Laws.Formed.Statement .feedEmpty :=
  Sys2Proof.Laws.formed_of_bytes _ 0x02 [] rfl rfl rfl (by simp)

theorem Sys2Proof.Laws.Formed.feedError :
    Sys2Proof.Laws.Formed.Statement .feedError :=
  Sys2Proof.Laws.formed_of_bytes _ 0x03 [] rfl rfl rfl (by simp)

theorem Sys2Proof.Laws.Formed.oscOn :
    Sys2Proof.Laws.Formed.Statement .oscOn :=
  Sys2Proof.Laws.formed_of_bytes _ 0x10 [] rfl rfl rfl (by simp)

theorem Sys2Proof.Laws.Formed.setBrightness (level : Sys2Proof.Byte) :
    Sys2Proof.Laws.Formed.Statement (.setBrightness level) :=
  Sys2Proof.Laws.formed_of_bytes _ 0x11 [level] rfl rfl rfl (by simp)

theorem Sys2Proof.Laws.Formed.setBlink (rate : Sys2Proof.Byte) :
    Sys2Proof.Laws.Formed.Statement (.setBlink rate) :=
  Sys2Proof.Laws.formed_of_bytes _ 0x12 [rate] rfl rfl rfl (by simp)

theorem Sys2Proof.Laws.Formed.clear :
    Sys2Proof.Laws.Formed.Statement .clear :=
  Sys2Proof.Laws.formed_of_bytes _ 0x20 [] rfl rfl rfl (by simp)

theorem Sys2Proof.Laws.Formed.renderBegin :
    Sys2Proof.Laws.Formed.Statement .renderBegin :=
  Sys2Proof.Laws.formed_of_bytes _ 0x21 [] rfl rfl rfl (by simp)

theorem Sys2Proof.Laws.Formed.renderCommit :
    Sys2Proof.Laws.Formed.Statement .renderCommit :=
  Sys2Proof.Laws.formed_of_bytes _ 0x22 [] rfl rfl rfl (by simp)

theorem Sys2Proof.Laws.Formed.mergeOff (layer : Sys2Proof.Layer) :
    Sys2Proof.Laws.Formed.Statement (.mergeOff layer) :=
  Sys2Proof.Laws.formed_of_bytes _ 0x24 layer.toList rfl rfl (by rw [Vector.length_toList]; rfl) (by simp)

theorem Sys2Proof.Laws.Formed.mergeG (layer : Sys2Proof.Layer) :
    Sys2Proof.Laws.Formed.Statement (.mergeG layer) :=
  Sys2Proof.Laws.formed_of_bytes _ 0x25 layer.toList rfl rfl (by rw [Vector.length_toList]; rfl) (by simp)

theorem Sys2Proof.Laws.Formed.mergeR (layer : Sys2Proof.Layer) :
    Sys2Proof.Laws.Formed.Statement (.mergeR layer) :=
  Sys2Proof.Laws.formed_of_bytes _ 0x26 layer.toList rfl rfl (by rw [Vector.length_toList]; rfl) (by simp)

theorem Sys2Proof.Laws.Formed.mergeY (layer : Sys2Proof.Layer) :
    Sys2Proof.Laws.Formed.Statement (.mergeY layer) :=
  Sys2Proof.Laws.formed_of_bytes _ 0x27 layer.toList rfl rfl (by rw [Vector.length_toList]; rfl) (by simp)

theorem Sys2Proof.Laws.Formed.writeRaw (d : Sys2Proof.Image) :
    Sys2Proof.Laws.Formed.Statement (.writeRaw d) :=
  Sys2Proof.Laws.formed_of_bytes _ 0x30 d.toList rfl rfl (by rw [Vector.length_toList]; rfl) (by simp)
end

