-- ==== Sys2Proof/Tests/Slice0.lean ====
section
/-! SUPPORT. The model's own tests. Every expected value is from spec/95_test_vectors.md (its vector is named) or worked
out by hand from the rule named. Each theorem is about one step or one short list of requests. -/

namespace Sys2Proof.Tests

open Sys2Proof Sys2Proof.Machine

/-! ### Helpers -/

/-- The reset state with these coming answers of the actuator. -/
def withAnswers (answers : List Bool) : State :=
  { State.reset with actuatorTape := answers }

/-- The same with a render open and an arbitrary buffer whose address byte is 0. -/
def openWith (answers : List Bool) : State :=
  { State.reset with
    ropen := true
    actuatorTape := answers
    wb := #v[0x00, 0xF0, 0x3C, 0x0F, 0, 0, 0, 0, 0, 0, 0, 0, 0, 0, 0, 0x01, 0x02] }

/-- A framer that has five bytes of the frame of vector F1. -/
def nearlyFull : State :=
  { State.reset with fb := #v[0x10, 0x11, 0x12, 0x13, 0x3F, 0x77], widx := 5 }

/-- A halted block (E13). -/
def haltedState : State :=
  { State.reset with fatal := true, cause := 0x01 }

/-- A host at a position, with every answer its next moves take known. -/
def hostFrom (p : HostPos) (transport : List Bool) (sensor : List SensorAnswer) : State :=
  { State.reset with
    transportTape := transport
    sensorTape := sensor
    actuatorTape := [true, true]
    host := { hostReset with pos := p } }

/-- A check of the next state that a result gives. -/
def holdsNext (r : Result) (p : State → Bool) : Bool :=
  match r with
  | .next t => p t
  | .fault _ => false
  | .refused _ => false

/-- The eyeball of 95_test_vectors.md. -/
def eyeballT : Layer := #v[0x3C, 0x42, 0x81, 0x81, 0x81, 0x81, 0x42, 0x3C]

/-- The centered pupil of 95_test_vectors.md. -/
def centerT : Layer := #v[0x00, 0x00, 0x00, 0x18, 0x18, 0x00, 0x00, 0x00]

/-- The right-down pupil of 95_test_vectors.md. -/
def rightDownT : Layer := #v[0x00, 0x00, 0x00, 0x00, 0x0C, 0x0C, 0x00, 0x00]

/-- The image of W3: byte `k` is `k + 1`. -/
def countingImage : Image := #v[1, 2, 3, 4, 5, 6, 7, 8, 9, 10, 11, 12, 13, 14, 15, 16]

/-- A pressed set of buttons, as the vector of R60. -/
def buttonsOf (v : BitVec 8) : ButtonState :=
  ⟨v.getLsbD 0, v.getLsbD 1, v.getLsbD 2, v.getLsbD 3, v.getLsbD 4, v.getLsbD 5, v.getLsbD 6, v.getLsbD 7⟩

/-- A frame with these two button bytes. -/
def frameWith (b4 b5 : Byte) : Frame := #v[0xA1, 0xA2, 0xA3, 0xA4, b4, b5]

/-! ### Decoding: words written out from the encodings of R48 and R52 -/

theorem test_decode_nop : decodeRequest [0b00000000, 0x01] = .ok (.nop, [0x01]) := by decide
theorem test_decode_feed : decodeRequest [0b00000001, 0b11101111, 0x22] = .ok (.feed 0xEF, [0x22]) := by decide
theorem test_decode_feed_empty : decodeRequest [0b00000010, 0x05] = .ok (.feedEmpty, [0x05]) := by decide
theorem test_decode_feed_error : decodeRequest [0b00000011] = .ok (.feedError, []) := by decide
theorem test_decode_osc_on : decodeRequest [0b00010000] = .ok (.oscOn, []) := by decide
theorem test_decode_set_brightness : decodeRequest [0b00010001, 0b00001111] = .ok (.setBrightness 15, []) := by decide
theorem test_decode_set_blink : decodeRequest [0b00010010, 0b00000111] = .ok (.setBlink 7, []) := by decide
theorem test_decode_clear : decodeRequest [0b00100000] = .ok (.clear, []) := by decide
theorem test_decode_render_begin : decodeRequest [0b00100001] = .ok (.renderBegin, []) := by decide
theorem test_decode_render_commit : decodeRequest [0b00100010] = .ok (.renderCommit, []) := by decide
theorem test_decode_merge_off :
    decodeRequest [0b00100100, 1, 2, 3, 4, 5, 6, 7, 8] = .ok (.mergeOff #v[1, 2, 3, 4, 5, 6, 7, 8], []) := by decide
theorem test_decode_merge_g :
    decodeRequest [0b00100101, 0x3C, 0x42, 0x81, 0x81, 0x81, 0x81, 0x42, 0x3C, 0x22] =
      .ok (.mergeG eyeballT, [0x22]) := by decide
theorem test_decode_merge_r :
    decodeRequest [0b00100110, 0x00, 0x00, 0x00, 0x18, 0x18, 0x00, 0x00, 0x00] = .ok (.mergeR centerT, []) := by decide
theorem test_decode_merge_y :
    decodeRequest [0b00100111, 0x00, 0x00, 0x00, 0x00, 0x0C, 0x0C, 0x00, 0x00] = .ok (.mergeY rightDownT, []) := by decide
theorem test_decode_write_raw :
    decodeRequest [0b00110000, 1, 2, 3, 4, 5, 6, 7, 8, 9, 10, 11, 12, 13, 14, 15, 16] =
      .ok (.writeRaw countingImage, []) := by decide

/-- The edges of the reserved ranges of R54, and the listed bytes beside them. -/
theorem test_decode_reserved_edges :
    ([0x04, 0x0F, 0x13, 0x1F, 0x23, 0x28, 0x2F, 0x31, 0xFF] : List Byte).all (fun op =>
      inReservedRanges op && decide (decodeRequest [op, 0, 0] = .error (.reserved op))) = true ∧
    ([0x03, 0x10, 0x12, 0x20, 0x22, 0x24, 0x27, 0x30] : List Byte).all (fun op =>
      !inReservedRanges op && opcodeListed op) = true := by decide
theorem test_decode_short_streams :
    decodeRequest [] = .error .noRequest ∧ decodeRequest [0x01] = .error (.incomplete 0x01) ∧
    decodeRequest [0x24, 1, 2, 3, 4, 5, 6, 7] = .error (.incomplete 0x24) ∧
    decodeRequest (0x30 :: List.replicate 15 0) = .error (.incomplete 0x30) := by decide

/-- The opcode table's numbering: the opcode byte is bits 7..0, the operand byte of FEED bits 15..8. -/
theorem test_table_words :
    decodeTableWord 8 0x01 = some (.feed 0x00) ∧ decodeTableWord 16 0xEF01 = some (.feed 0xEF) ∧
    decodeTableWord 8 0x25 = some (.mergeG (Vector.replicate 8 0)) ∧
    decodeTableWord 72 0x00000C0C0000000027 = some (.mergeY rightDownT) ∧
    decodeTableWord 8 0x23 = none := by decide
theorem test_step_runs_placed_word :
    step (State.reset.withFetchWord 16 0xEF01) = exec (.feed 0xEF) State.reset ∧
    step (State.reset.withFetchWord 8 0x21) = exec .renderBegin State.reset := ⟨rfl, rfl⟩

/-! ### WellFormed: an ill-formed request for each check -/

theorem test_wf_refuses_no_opcode : requestWellFormed [] = false := by decide
theorem test_wf_refuses_reserved_opcode : requestWellFormed [0x23] = false := by decide
theorem test_wf_refuses_missing_operand : requestWellFormed [0x01] = false := by decide
theorem test_wf_refuses_extra_operand : requestWellFormed [0x00, 0x00] = false := by decide
theorem test_wf_refuses_short_layer : requestWellFormed (0x24 :: List.replicate 7 0) = false := by decide
theorem test_wf_accepts_requests :
    requestWellFormed [0x12, 0xFF] = true ∧ requestWellFormed (0x27 :: List.replicate 8 0) = true ∧
    requestWellFormed (0x30 :: List.replicate 16 0) = true := by decide

/-! ### Assembler (R55) and pseudo-instructions (R56) -/

theorem test_assemble_lines :
    assemble "RENDER_BEGIN\nMERGE.G 0x18, 0, 0, 0, 0, 0, 0, 0x81 ; a layer\n\nSET_BLINK 7\nRENDER_COMMIT".toList =
      some [.renderBegin, .mergeG #v[0x18, 0, 0, 0, 0, 0, 0, 0x81], .setBlink 7, .renderCommit] := by decide +kernel
theorem test_assemble_refuses :
    parseLine "FEED 256".toList = none ∧ parseLine "FEED".toList = none ∧ parseLine "NOP 1".toList = none ∧
    parseLine "MERGE.B 0, 0, 0, 0, 0, 0, 0, 0".toList = none ∧ parseLine "FEED 0x".toList = none := by decide +kernel
theorem test_print_reads_back :
    parseLine (printInstr (.writeRaw countingImage)) = some [.writeRaw countingImage] ∧
    printInstr (.setBrightness 255) = "SET_BRIGHTNESS 255".toList := by decide +kernel
theorem test_render_expands :
    renderRequests [(eyeballT, .green), (centerT, .off)] =
      [.renderBegin, .mergeG eyeballT, .mergeOff centerT, .renderCommit] ∧
    feedSixRequests #v[1, 2, 3, 4, 5, 6] = [.feed 1, .feed 2, .feed 3, .feed 4, .feed 5, .feed 6] := by decide

/-! ### Packet Framer -/

/-- F1: the first five FEEDs and the sixth. -/
theorem test_feed_stores :
    holdsNext (runRequests [.feed 0x10, .feed 0x11] State.reset) (fun t =>
      t.fb[0] == 0x10 && t.fb[1] == 0x11 && status t == 0x0200 && t.frameOut.isNone) = true := by decide
theorem test_feed_completes :
    holdsNext (exec (.feed 0xEF) nearlyFull) (fun t =>
      t.frameOut == some #v[0x10, 0x11, 0x12, 0x13, 0x3F, 0xEF] && t.buttonsOut.map buttonVector == some 0x1C &&
      status t == 0x0000) = true := by decide
/-- F3. -/
theorem test_feed_empty_keeps_index :
    holdsNext (exec .feedEmpty { State.reset with widx := 3 }) (fun t => status t == 0x0300 && t.frameOut.isNone) = true := by
  decide
/-- F5. -/
theorem test_feed_error_faults :
    holdsNext (exec .feedError { State.reset with widx := 2 }) (fun t => status t == 0x8201) = true := by decide
/-- F6: the framer ignores ROPEN. -/
theorem test_feed_in_render :
    holdsNext (exec (.feed 0x00) { nearlyFull with ropen := true }) (fun t =>
      t.frameOut.isSome && status t == 0x4000) = true := by decide

/-! ### Button Decoder: BD2, BD4, BD6, BD12, BD19, BD20, BD22 to BD26 -/

theorem test_decode_buttons :
    ([(0xFF, 0xFF, 0x00), (0x00, 0x00, 0xFF), (0xBF, 0xFF, 0x04), (0xDF, 0xFF, 0x00), (0xEF, 0xFF, 0x80),
      (0xFF, 0xBF, 0x20), (0x01, 0xFF, 0xCC), (0x80, 0xFF, 0xC4), (0xFF, 0x40, 0x13), (0xFF, 0x01, 0x31),
      (0x3F, 0xEF, 0x1C), (0xBF, 0xEE, 0x16), (0xFB, 0xEF, 0x50), (0x3F, 0xAF, 0x3C)] :
        List (Byte × Byte × BitVec 8)).all (fun v =>
      buttonVector (decodeButtons defaultButtonMap (frameWith v.1 v.2.1)) == v.2.2) = true := by decide
/-- R71, R72: Down and B share 0x40, on f[4] and on f[5]. -/
theorem test_default_map_shares :
    defaultButtonMap.entry .down = ⟨.byte4, 0x40⟩ ∧ defaultButtonMap.entry .b = ⟨.byte5, 0x40⟩ := by decide

/-! ### Device control -/

/-- O1 and E7. -/
theorem test_osc_on :
    holdsNext (exec .oscOn (withAnswers [true])) (fun t =>
      t.txlog == [⟨[0x21], true⟩] && (actuatorFields t.txlog).osc == some true && status t == 0x0000) = true := by decide
theorem test_osc_on_in_render :
    holdsNext (exec .oscOn (openWith [true])) (fun t => t.txlog.isEmpty && status t == 0xC004) = true := by decide
/-- BR1, BR3 to BR6. -/
theorem test_brightness_bytes :
    ([(0, 0xE0), (7, 0xE7), (15, 0xEF), (16, 0xEF), (20, 0xEF), (255, 0xEF)] : List (Byte × Byte)).all (fun v =>
      holdsNext (exec (.setBrightness v.1) (withAnswers [true])) (fun t => t.txlog == [⟨[v.2], true⟩])) = true := by decide
/-- E14. -/
theorem test_brightness_fails :
    holdsNext (exec (.setBrightness 20) (withAnswers [false])) (fun t =>
      t.txlog == [⟨[0xEF], false⟩] && status t == 0x8002 && (actuatorFields t.txlog).bright == none) = true := by decide
/-- K1 to K7. -/
theorem test_blink_bytes :
    ([(0, 0x81, 0), (1, 0x83, 1), (2, 0x85, 2), (3, 0x87, 3), (4, 0x81, 0), (7, 0x81, 0), (255, 0x81, 0)] :
        List (Byte × Byte × BitVec 2)).all (fun v =>
      holdsNext (exec (.setBlink v.1) (withAnswers [true])) (fun t =>
        t.txlog == [⟨[v.2.1], true⟩] && (actuatorFields t.txlog).blink == some v.2.2 &&
        (actuatorFields t.txlog).dispOn == some true)) = true := by decide
/-- E9. -/
theorem test_blink_in_render :
    holdsNext (exec (.setBlink 1) (openWith [true])) (fun t => t.txlog.isEmpty && status t == 0xC004) = true := by decide

/-! ### Display buffer -/

/-- RENDER_BEGIN wipes what WB held; E4. -/
theorem test_render_begin :
    holdsNext (exec .renderBegin { openWith [] with ropen := false }) (fun t =>
      t.wb == Vector.replicate 17 0x00 && status t == 0x4000) = true := by decide
theorem test_render_begin_twice :
    holdsNext (runRequests [.renderBegin, .renderBegin] State.reset) (fun t => status t == 0xC004) = true := by decide
/-- M5, E2. -/
theorem test_merge_off :
    holdsNext (exec (.mergeOff (Vector.replicate 8 0xFF)) (openWith [])) (fun t => t.wb == (openWith []).wb) = true := by
  decide
theorem test_merge_off_checked :
    holdsNext (exec (.mergeOff (Vector.replicate 8 0x00)) State.reset) (fun t => status t == 0x8003) = true := by decide
/-- M1. -/
theorem test_merge_green :
    holdsNext (runRequests [.renderBegin, .mergeG #v[0x18, 0, 0, 0, 0, 0, 0, 0x81]] State.reset) (fun t =>
      t.wb == #v[0, 0x18, 0, 0, 0, 0, 0, 0, 0, 0, 0, 0, 0, 0, 0, 0x81, 0]) = true := by decide
/-- M2. -/
theorem test_merge_red :
    holdsNext (runRequests [.renderBegin, .mergeR #v[0x18, 0, 0, 0, 0, 0, 0, 0x81]] State.reset) (fun t =>
      t.wb == #v[0, 0, 0x18, 0, 0, 0, 0, 0, 0, 0, 0, 0, 0, 0, 0, 0, 0x81]) = true := by decide
/-- M3. -/
theorem test_merge_yellow :
    holdsNext (runRequests [.renderBegin, .mergeY #v[0x3C, 0, 0, 0, 0, 0, 0, 0]] State.reset) (fun t =>
      t.wb == #v[0, 0x3C, 0x3C, 0, 0, 0, 0, 0, 0, 0, 0, 0, 0, 0, 0, 0, 0]) = true := by decide
/-- M4. -/
theorem test_merges_accumulate :
    mergeLayer (mergeLayer (mergeLayer (Vector.replicate 17 0) #v[0xF0, 0x0F, 0, 0, 0, 0, 0, 0] .green)
      #v[0x3C, 0, 0, 0, 0, 0, 0, 0] .red) #v[0x0F, 0, 0, 0, 0, 0, 0, 0] .green =
      #v[0, 0xFF, 0x3C, 0x0F, 0, 0, 0, 0, 0, 0, 0, 0, 0, 0, 0, 0, 0] := by decide
/-- P2, steps 7 to 10, and E15. -/
theorem test_render_commit :
    holdsNext (runRequests (renderRequests [(eyeballT, .green), (rightDownT, .green)]) (withAnswers [true])) (fun t =>
      t.txlog == [⟨[0x00, 0x3C, 0x00, 0x42, 0x00, 0x81, 0x00, 0x81, 0x00, 0x8D, 0x00, 0x8D, 0x00, 0x42, 0x00, 0x3C, 0x00],
        true⟩] && status t == 0x0000) = true := by decide
theorem test_render_commit_fails :
    holdsNext (exec .renderCommit (openWith [false])) (fun t =>
      t.txlog == [⟨(openWith []).wb.toList, false⟩] && status t == 0xC002) = true := by decide
/-- CL1, E5. -/
theorem test_clear :
    holdsNext (exec .clear (withAnswers [true])) (fun t =>
      t.txlog == [⟨List.replicate 17 0, true⟩] && (actuatorFields t.txlog).ram == some (Vector.replicate 16 0)) = true := by
  decide
theorem test_clear_in_render :
    holdsNext (exec .clear (openWith [true])) (fun t => t.txlog.isEmpty && status t == 0xC004) = true := by decide
/-- W3, E6. -/
theorem test_write_raw :
    holdsNext (exec (.writeRaw countingImage) (withAnswers [true])) (fun t =>
      t.txlog == [⟨[0, 1, 2, 3, 4, 5, 6, 7, 8, 9, 10, 11, 12, 13, 14, 15, 16], true⟩] &&
      (actuatorFields t.txlog).ram == some countingImage) = true := by decide
theorem test_write_raw_in_render :
    holdsNext (exec (.writeRaw countingImage) (openWith [true])) (fun t => t.txlog.isEmpty && status t == 0xC004) = true := by
  decide
/-- NP1. -/
theorem test_nop :
    exec .nop (openWith []) = .next (openWith []) ∧ exec .nop State.reset = .next State.reset := ⟨rfl, rfl⟩
/-- E12: the reserved byte is found before the sequencing check; E10. -/
theorem test_illegal_request :
    holdsNext (step { openWith [] with reqs := [0x04, 0x05] }) (fun t => status t == 0xC005 && t.reqs == [0x05]) = true ∧
    holdsNext (step { State.reset with reqs := [0x23] }) (fun t => status t == 0x8005) = true := by decide
/-- W1: every cell lit in both planes; column 7 is the leftmost (R33). -/
theorem test_cell_colors :
    cellColor (Vector.replicate 16 0xFF) 3 5 = .yellow ∧
    pictureCell .topFirst #v[0x80, 0x01, 0, 0, 0, 0, 0, 0, 0, 0, 0, 0, 0, 0, 0, 0] 0 0 = .green ∧
    pictureCell .bottomFirst #v[0x80, 0x01, 0, 0, 0, 0, 0, 0, 0, 0, 0, 0, 0, 0, 0, 0] 7 7 = .red := by decide

/-! ### Host: H1 to H18 -/

theorem test_select_pupil :
    ([(0x00, .centerPupil), (0x01, .leftPupil), (0x08, .rightPupil), (0x02, .upPupil), (0x04, .downPupil),
      (0x03, .leftUpPupil), (0x05, .leftDownPupil), (0x0A, .rightUpPupil), (0x1C, .rightDownPupil), (0x09, .leftPupil),
      (0x06, .upPupil), (0x0F, .leftUpPupil), (0x0D, .leftDownPupil), (0x80, .centerPupil)] :
        List (BitVec 8 × GlyphName)).all (fun v => selectPupil (buttonsOf v.1) == v.2) = true := by decide
theorem test_select_color :
    ([(0x00, .red), (0x1C, .green), (0x20, .yellow), (0x30, .green), (0x50, .off), (0x60, .off), (0x80, .red)] :
        List (BitVec 8 × Color)).all (fun v => selectColor (buttonsOf v.1) == v.2) = true := by decide
/-- P3, frame 4: the counter goes from 3 to 0 and 12 00 is presented. -/
theorem test_select_wraps :
    holdsNext (step { hostFrom .outputs [] [] with
      host := { hostReset with pos := .outputs, blinkCtr := 3 }
      frameOut := some (frameWith 0xEF 0xFF)
      buttonsOut := some (buttonsOf 0x80) }) (fun t =>
        t.host.blinkCtr == 0 && t.reqs == [0x12, 0x00] && t.host.pos == .render .centerPupil .red) = true := by decide
/-- An empty read of the identify response is read again, and its sixth byte ends it (log 18). -/
theorem test_identify_reads :
    holdsNext (step (hostFrom (.identifyRead 5) [] [.empty])) (fun t => t.host.pos == .identifyRead 5) = true ∧
    holdsNext (step (hostFrom (.identifyRead 5) [] [.byte 0x01])) (fun t => t.host.pos == .handshakeAck && t.reqs.isEmpty) =
      true := by decide

/-! ### Witnesses: a concrete state and operands that meet the hypotheses of each statement, clause by clause -/

/-- DecodedBytesAreTheEncoding, StepPerformsThePresentedRequest. -/
theorem test_witness_presented_request :
    decodeRequest ({ State.reset with reqs := [0x01, 0x3F, 0x20] }).reqs = .ok (.feed 0x3F, [0x20]) := by decide
/-- ReservedOpcodeRaisesIllegalRequest, at both ends of each range and with ROPEN at 0 and 1. -/
theorem test_witness_reserved :
    ([0x04, 0x0F, 0x13, 0x1F, 0x23, 0x28, 0x2F, 0x31, 0xFF] : List Byte).all (fun op =>
      [true, false].all fun ropen =>
        let s : State := { State.reset with ropen := ropen, reqs := [op, 0x00] }
        !s.fatal && s.reqs == [op, 0x00] && inReservedRanges op &&
          holdsNext (step s) fun t => t.reqs == [0x00] && t.cause == 0x05) = true := by decide
/-- HaltedBlockHasNoStep. -/
theorem test_witness_halted : haltedState.fatal = true ∧ step haltedState = .fault .halted := ⟨rfl, rfl⟩
/-- EveryRequestAnswersANextState and every per-request statement: FATAL = 0 with ROPEN at 0 and at 1, and the actuator's
answer true and false. -/
theorem test_witness_running :
    (State.reset.fatal = false ∧ State.reset.ropen = false) ∧ ((openWith []).fatal = false ∧ (openWith []).ropen = true) ∧
    (actuatorAnswer (withAnswers [true]) = true ∧ actuatorAnswer (withAnswers [false]) = false) ∧
    (actuatorAnswer (openWith [true]) = true ∧ actuatorAnswer (openWith [false]) = false) := by decide
/-- RequestsWriteOnlyTheirState, WriteIndexCountsFeeds: a next state, of a request that is FEED and of one that is not. -/
theorem test_witness_next :
    exec .renderBegin State.reset = .next { State.reset with wb := Vector.replicate 17 0, ropen := true } ∧
    (holdsNext (exec (.feed 0x10) State.reset) fun t => t.widx == 1) = true ∧ isFeed .renderBegin = false ∧
    writesBuffer .clear = false ∧ emits .nop = false := ⟨rfl, by decide, rfl, rfl, rfl⟩
/-- HostMoveLeavesTheBlockAlone, TransferLogOnlyGrows: a move of the host with its transport's answer known. -/
theorem test_witness_host_move :
    (holdsNext (hostMove (hostFrom .openSensor [true] [])) fun t => t.host.pos == .openActuator) = true ∧
    (holdsNext (step (hostFrom .openSensor [true] [])) fun t => t.host.pos == .openActuator && t.txlog.isEmpty) = true := by
  decide
/-- FeedStoresTheByteAndCompletesAtFive, OutputsOnlyFromACompletingFeed: WIDX = 5, and WIDX = 4 and 0. -/
theorem test_witness_feed :
    nearlyFull.widx = 5 ∧ nearlyFull.fatal = false ∧
    (holdsNext (exec (.feed 0) nearlyFull) fun t => t.frameOut.isSome && t.widx == 0) = true ∧
    (holdsNext (exec (.feed 0) { nearlyFull with widx := 4 }) fun t => t.frameOut.isNone && t.widx == 5) = true ∧
    (holdsNext (exec (.feed 0) { nearlyFull with widx := 0 }) fun t => t.frameOut.isNone && t.widx == 1) = true := by decide
/-- FramerGroupsBytesBySix: six bytes and an empty read among them give one frame (F4). -/
theorem test_witness_framer :
    framesOf (framerRequests [some 0x10, none, some 0x11, some 0x12, some 0x13, some 0x3F, some 0xEF]) State.reset =
      [#v[0x10, 0x11, 0x12, 0x13, 0x3F, 0xEF]] ∧ State.reset.widx = 0 := by decide
/-- DecodeReadsOnlyTheButtonBytes. -/
theorem test_witness_button_bytes :
    (frameWith 0x3F 0xEF)[4] = (#v[0, 0, 0, 0, 0x3F, 0xEF] : Frame)[4] ∧
    (frameWith 0x3F 0xEF)[5] = (#v[0, 0, 0, 0, 0x3F, 0xEF] : Frame)[5] ∧
    frameWith 0x3F 0xEF ≠ #v[0, 0, 0, 0, 0x3F, 0xEF] := by decide
/-- SingleBitMaskProperties: Left has bit 1 of f[5], Right bit 7 of f[4]; the byte of each clause. -/
theorem test_witness_single_bit :
    (defaultButtonMap.entry .left).mask = 1#8 <<< 1 ∧ (defaultButtonMap.entry .right).mask = 1#8 <<< 7 ∧
    (frameWith 0xFF 0x00)[4] = 0xFF ∧ (frameWith 0xFF 0x00)[5] = 0x00 ∧
    (frameWith 0x7F 0x02)[4] = 0xFF ^^^ (1#8 <<< 7) ∧ (frameWith 0x7F 0x02)[5] = 1#8 <<< 1 := by decide
/-- DeviceControlReductions: a next state with a new record, and a rate just above 3. -/
theorem test_witness_device_control :
    (holdsNext (exec (.setBrightness 16) (withAnswers [true])) fun t => t.txlog != (withAnswers [true]).txlog) = true ∧
    (holdsNext (exec (.setBlink 4) (withAnswers [true])) fun t => t.txlog != (withAnswers [true]).txlog) = true ∧
    3 < (4 : Byte).toNat := by decide
/-- CompositingProperties: a set bit before the merge. -/
theorem test_witness_set_bit : (openWith []).wb[(1 : Fin 17)].getLsbD 7 = true := by decide
/-- RenderEmitsUnionOfLayers. -/
theorem test_witness_render :
    (withAnswers [true]).fatal = false ∧ (withAnswers [true]).ropen = false ∧ actuatorAnswer (withAnswers [true]) = true := by
  decide
/-- MergedCellShowsItsColor: the bytes of a buffer after one merge are an image. -/
theorem test_witness_merged_image :
    (displayImage (mergeLayer (Vector.replicate 17 0x00) rightDownT .yellow).toList).isSome = true := by decide
/-- SequencingCheckRaisesItsFault, CauseCodesAndTheirRequests: each need with ROPEN at 0 and at 1. -/
theorem test_witness_sequencing :
    (requestNeed .renderCommit = .opened ∧ requestNeed .clear = .closed ∧ requestNeed .nop = .either) ∧
    State.reset.cause = 0x00 ∧ (openWith []).cause = 0x00 ∧
    sequencingFault (requestNeed .clear) false = none ∧ emits .clear = true ∧ opcodeListed 0x23 = false := by decide
/-- FaultEntryIsPrecise: a step that faults in each of its ways, with a request still pending behind it. -/
theorem test_witness_fault_entry :
    (holdsNext (step { withAnswers [false] with reqs := [0x20, 0x00] }) fun t =>
      t.fatal && t.cause == 0x02 && t.txlog == [⟨List.replicate 17 0, false⟩] && t.reqs == [0x00]) = true ∧
    (holdsNext (step { State.reset with reqs := [0x03, 0x00] }) fun t =>
      t.fatal && t.cause == 0x01 && t.reqs == [0x00]) = true ∧
    (holdsNext (step { State.reset with reqs := [0x22, 0x00] }) fun t =>
      t.fatal && t.cause == 0x03 && t.reqs == [0x00]) = true ∧
    (holdsNext (step { openWith [] with reqs := [0x21, 0x00] }) fun t =>
      t.fatal && t.cause == 0x04 && t.reqs == [0x00]) = true ∧
    (holdsNext (step { State.reset with reqs := [0x23, 0x00] }) fun t =>
      t.fatal && t.cause == 0x05 && t.reqs == [0x00]) = true := by decide
/-- ShownImageNeedsOscillatorAndBlink: the log of P1. -/
theorem test_witness_shown :
    imageShown [⟨[0x21], true⟩, ⟨[0x81], true⟩, ⟨[0xEF], true⟩, ⟨List.replicate 17 0, true⟩] =
      some (Vector.replicate 16 0) := by decide
/-- A failed repeat of OSC_ON leaves ACT_OSC unknown (R28), so that no image is known to be shown (log 28). -/
theorem test_failed_osc_on_shows_nothing :
    imageShown [⟨[0x21], true⟩, ⟨[0x81], true⟩, ⟨List.replicate 17 0, true⟩, ⟨[0x21], false⟩] = none ∧
    (actuatorFields [⟨[0x21], true⟩, ⟨[0x21], false⟩]).osc = none := by decide
/-- PupilFollowsPriority, ColorFollowsPrecedence: every clause's condition is met by some buttons. -/
theorem test_witness_selections :
    ([0x03, 0x05, 0x0A, 0x0C, 0x01, 0x08, 0x02, 0x04, 0x00] : List (BitVec 8)).map (fun v => selectPupil (buttonsOf v)) =
      [.leftUpPupil, .leftDownPupil, .rightUpPupil, .rightDownPupil, .leftPupil, .rightPupil, .upPupil, .downPupil,
       .centerPupil] ∧
    ([0x70, 0x30, 0x20, 0x00] : List (BitVec 8)).map (fun v => selectColor (buttonsOf v)) =
      [.off, .green, .yellow, .red] := by decide
/-- HandshakeTranscript, with a diagnostic sequence of one image and one delay. -/
theorem test_witness_handshake :
    ∃ (s : State) (identify : Frame), s.fatal = false ∧ s.ropen = false ∧ s.reqs = [] ∧ s.host.pos = .openSensor ∧
      s.transportTape = List.replicate 8 true ∧ s.sensorTape = identify.toList.map SensorAnswer.byte ∧
      s.actuatorTape = List.replicate ((diagImages (diagSequence s)).length + 4) true :=
  ⟨{ State.reset with
      transportTape := List.replicate 8 true
      sensorTape := [.byte 1, .byte 2, .byte 3, .byte 4, .byte 5, .byte 6]
      actuatorTape := List.replicate 5 true
      host := { hostReset with diagSeq := some [.write countingImage, .delay] } },
    #v[1, 2, 3, 4, 5, 6], by decide⟩
/-- PollTurnsReadIntoRequest, each answer. -/
theorem test_witness_poll :
    ([(.byte 0x3F, [0x01, 0x3F]), (.empty, [0x02]), (.ioError, [0x03])] : List (SensorAnswer × List Byte)).all (fun v =>
      holdsNext (step (hostFrom .poll [] [v.1])) fun t => t.reqs == v.2 && t.host.pos == .outputs) = true := by decide
/-- SelectAdvancesBlinkCounter: Select/Minus pressed (test_select_wraps), not pressed, and no frame completed. -/
theorem test_witness_select :
    (holdsNext (step { hostFrom .outputs [] [] with
      frameOut := some (frameWith 0x3F 0xEF), buttonsOut := some (buttonsOf 0x1C) }) fun t =>
        t.host.pos == .render .rightDownPupil .green && t.reqs.isEmpty && t.host.blinkCtr == 0) = true ∧
    (hostFrom .outputs [] []).frameOut = none ∧
    (holdsNext (step (hostFrom .outputs [] [])) fun t => t.host.pos == .sleep && t.reqs.isEmpty) = true := by decide
/-- RenderThenAcknowledge. -/
theorem test_witness_render_then_ack :
    let s := hostFrom (.render .centerPupil .red) [true] []
    s.fatal = false ∧ s.ropen = false ∧ s.reqs = [] ∧ s.host.pos = .render .centerPupil .red ∧
      s.actuatorTape = true :: [true] ∧ s.transportTape = true :: [] := by decide
/-- TransportFailureEndsTheRun: a failing answer at each of its positions, the first and last read of the identify response, the
read of Polling, and the two ends. -/
theorem test_witness_transport_failure :
    ([.openSensor, .openActuator, .selectSensor, .selectActuator, .encryptFirst, .encryptSecond, .identify, .handshakeAck,
      .ack] : List HostPos).all (fun p =>
        let s := hostFrom p [false] []
        !transportAnswer s && holdsNext (step s) fun t => t.host.pos == .exited) = true ∧
    ([0, 5] : List (Fin 6)).all (fun got =>
      let s := hostFrom (.identifyRead got) [] [.ioError]
      sensorAnswer s == .ioError && holdsNext (step s) fun t => t.host.pos == .exited) = true ∧
    (sensorAnswer (hostFrom .poll [] [.ioError]) = .ioError ∧
      (holdsNext (step (hostFrom .poll [] [.ioError])) fun t =>
        holdsNext (step t) fun u => u.fatal && u.cause == 0x01) = true) ∧
    step haltedState = .fault .halted ∧ step (hostFrom .exited [] []) = .fault .hostExited :=
  ⟨by decide, by decide, by decide, rfl, rfl⟩
/-- BlockInvariantKeptByStep: a state with an open render and one step from it. -/
theorem test_witness_block_invariant :
    BlockInv { openWith [false] with reqs := [0x22] } ∧
    (holdsNext (step { openWith [false] with reqs := [0x22] }) fun t => t.fatal && t.cause == 0x02) = true := by
  refine ⟨⟨by decide, by decide, by decide, by decide, by decide, by decide⟩, by decide⟩
/-- HostInvariantKeptByStep, ReferenceHostNeverMissequences: a render pending, its first step, and a FEED_ERROR that
faults. -/
theorem test_witness_host_invariant :
    (HostInv { State.reset with reqs := encodeAll (renderRequests [(eyeballT, .green)]) } ∧
      (holdsNext (step { State.reset with reqs := encodeAll (renderRequests [(eyeballT, .green)]) }) fun t => t.ropen) = true) ∧
    HostInv { State.reset with reqs := [0x03] } ∧
      (holdsNext (step { State.reset with reqs := [0x03] }) fun t => t.fatal && t.cause == 0x01) = true :=
  ⟨⟨fun _ => ⟨renderRequests [(eyeballT, .green)], rfl, by decide, fun h => absurd h (by decide)⟩, by decide⟩,
    ⟨fun _ => ⟨[.feedError], rfl, by decide, fun h => absurd h (by decide)⟩, by decide⟩⟩
/-- AcknowledgmentFollowsTheRender: the host about to acknowledge behind a display write. -/
theorem test_witness_acknowledgment :
    let s : State := { hostFrom .ack [true] [] with txlog := [⟨List.replicate 17 0, true⟩] }
    HostInv s ∧ s.host.pos = .ack ∧ (holdsNext (step s) fun t => t.host.sensorLog == [⟨[0x00], true⟩]) = true :=
  ⟨fun _ => ⟨[], rfl, by decide, fun _ => .inl ⟨rfl, ⟨_, rfl, rfl, rfl⟩⟩⟩, rfl, by decide⟩

end Sys2Proof.Tests
end

section
/-! The scope of a step: which request it performs, that a running block never refuses one, and that the host's program
reaches the block through presented requests alone (00_scope.md). -/

namespace Sys2Proof.Machine

/-! ### The step and the requests -/

/-- While FATAL = 1 no request has a step (60_exceptions.md R110). -/
theorem exec_halted {s : State} (i : Instr) (h : s.fatal = true) : exec i s = .fault .halted := by
  rw [exec_eq_perform, perform_halted _ _ h]

theorem step_halted {s : State} (h : s.fatal = true) : step s = .fault .halted := by
  simp [step, h]

theorem step_request {s : State} {i : Instr} {rest : List Byte} (h : s.fatal = false)
    (hd : decodeRequest s.reqs = .ok (i, rest)) : step s = exec i (withRequests rest s) := by
  simp [step, h, hd]

theorem perform_next {s : State} (need : Need) (act : State → State) (h : s.fatal = false) :
    ∃ t, perform need act s = .next t := by
  cases hq : sequencingFault need s.ropen with
  | some c => exact ⟨_, perform_fault act h hq⟩
  | none => exact ⟨_, perform_action act h hq⟩

/-- Settles O7: a halted block answers neither the step nor the request, and a running one performs the request. -/
theorem stepPerformsThePresentedRequest : Obligations.StepPerformsThePresentedRequest := by
  intro s i rest hd
  change step s = exec i (withRequests rest s)
  cases hf : s.fatal with
  | true => rw [step_halted hf, exec_halted i (by simpa using hf)]
  | false => exact step_request hf hd

/-- Settles O9: every request is a sequencing check and an action, and both ways out of the check are next states. -/
theorem everyRequestAnswersANextState : Obligations.EveryRequestAnswersANextState := by
  intro i s hf
  rw [exec_eq_perform]
  exact perform_next _ _ hf

/-! ### The host's moves -/

/-- `t` is `s` with requests presented behind the pending ones; beside that only the host's context and what the model keeps
for its answers may differ (00_scope.md R6, R8). -/
def OnlyPresents (s t : State) : Prop :=
  ∃ (is : List Instr) (host : HostState) (sensorTape : List SensorAnswer) (transportTape : List Bool) (draws : Nat),
    t = { s with
      reqs := s.reqs ++ encodeAll is, host := host, sensorTape := sensorTape, transportTape := transportTape,
      draws := draws }

namespace OnlyPresents

variable {s t u : State}

theorem refl (s : State) : OnlyPresents s s :=
  ⟨[], s.host, s.sensorTape, s.transportTape, s.draws, by simp⟩

theorem trans (h : OnlyPresents s t) (h' : OnlyPresents t u) : OnlyPresents s u := by
  obtain ⟨is, _, _, _, _, rfl⟩ := h
  obtain ⟨js, host, sensorTape, transportTape, draws, rfl⟩ := h'
  exact ⟨is ++ js, host, sensorTape, transportTape, draws, by simp⟩

theorem of_host (s : State) (host : HostState) : OnlyPresents s { s with host := host } :=
  ⟨[], host, s.sensorTape, s.transportTape, s.draws, by simp⟩

theorem of_present (is : List Instr) (s : State) : OnlyPresents s (present is s) :=
  ⟨is, s.host, s.sensorTape, s.transportTape, s.draws, rfl⟩

theorem of_transportDrawn (s : State) : OnlyPresents s (transportDrawn s) := by
  unfold transportDrawn
  split
  case h_1 _ tape _ => exact ⟨[], s.host, s.sensorTape, tape, s.draws, by simp⟩
  case h_2 => exact ⟨[], s.host, s.sensorTape, s.transportTape, s.draws + 1, by simp⟩

theorem of_sensorDrawn (s : State) : OnlyPresents s (sensorDrawn s) := by
  unfold sensorDrawn
  split
  case h_1 _ tape _ => exact ⟨[], s.host, tape, s.transportTape, s.draws, by simp⟩
  case h_2 => exact ⟨[], s.host, s.sensorTape, s.transportTape, s.draws + 1, by simp⟩

theorem of_hostAt (p : HostPos) (s : State) : OnlyPresents s (hostAt p s) :=
  of_host s _

theorem of_issue (is : List Instr) (next : HostPos) (s : State) : OnlyPresents s (issue is next s) :=
  (of_present is s).trans (of_hostAt next _)

theorem of_hostOperation (next : HostPos) (s : State) : OnlyPresents s (hostOperation next s) :=
  (of_transportDrawn s).trans (of_hostAt _ _)

theorem of_sensorWrite (bytes : List Byte) (next : HostPos) (s : State) : OnlyPresents s (sensorWrite bytes next s) :=
  have hlog : OnlyPresents s (logSensorWrite bytes (transportAnswer s) (transportDrawn s)) :=
    (of_transportDrawn s).trans (of_host _ _)
  hlog.trans (of_hostAt _ _)

theorem of_identifyByte (got : Fin 6) (s : State) : OnlyPresents s (identifyByte got s) := by
  unfold identifyByte
  split <;> exact (of_sensorDrawn s).trans (of_hostAt _ _)

theorem of_diagAction (k : Nat) (s : State) : OnlyPresents s (diagAction k s) := by
  unfold diagAction
  split
  · exact of_issue _ _ s
  · exact of_hostAt _ s
  · exact of_hostAt _ s

theorem of_pollSensor (s : State) : OnlyPresents s (pollSensor s) := by
  unfold pollSensor
  split <;> exact (of_sensorDrawn s).trans (of_issue _ _ _)

theorem of_blinkOnSelect (btn : ButtonState) (s : State) : OnlyPresents s (blinkOnSelect btn s) := by
  unfold blinkOnSelect
  split
  · have hctr : OnlyPresents s (advanceBlink s) := of_host s _
    exact hctr.trans (of_present _ _)
  · exact refl s

theorem of_lookAtOutputs (s : State) : OnlyPresents s (lookAtOutputs s) := by
  unfold lookAtOutputs
  split
  · exact (of_blinkOnSelect _ s).trans (of_hostAt _ _)
  · exact of_hostAt _ s

/-- Whatever the host's position, its action only presents requests. -/
theorem of_hostAction (p : HostPos) (s : State) : OnlyPresents s (hostAction p s) := by
  cases p with
  | openSensor | openActuator | selectSensor | selectActuator => exact of_hostOperation _ s
  | encryptFirst | encryptSecond | identify | handshakeAck | ack => exact of_sensorWrite _ _ s
  | identifyRead got => exact of_identifyByte got s
  | settle | sleep => exact of_hostAt _ s
  | oscOn | blinkOff | brightMax | clear | render => exact of_issue _ _ s
  | diag k => exact of_diagAction k s
  | handshakeDone => exact (of_host s _).trans (of_hostAt .poll _)
  | poll => exact of_pollSensor s
  | outputs => exact of_lookAtOutputs s
  | exited => exact refl s

end OnlyPresents

/-- Settles O11: a move of the host is its action, which only presents requests, with the step outputs emptied. -/
theorem hostMoveLeavesTheBlockAlone : Obligations.HostMoveLeavesTheBlockAlone := by
  intro s t h
  obtain ⟨-, rfl⟩ := hostMove_next h
  obtain ⟨is, _, _, _, _, haction⟩ := OnlyPresents.of_hostAction s.host.pos s
  rw [haction]
  exact ⟨rfl, rfl, rfl, rfl, rfl, rfl, rfl, rfl, rfl, rfl, rfl, is, rfl⟩

end Sys2Proof.Machine
end

section
/-! The block's state (10_state.md): what a request leaves in the transfer log, in the framer and in the step outputs, the
invariant every step keeps, the STATUS word, and the actuator's fields as transfers leave them. -/

namespace Sys2Proof.Machine

/-! ### What a request answers -/

/-- Everything a request that has a step can do: fail its sequencing check, or act on empty outputs. -/
theorem exec_cases {i : Instr} {s t : State} (h : exec i s = .next t) :
    s.fatal = false ∧
      ((∃ c, sequencingFault (requestNeed i) s.ropen = some c ∧ t = raiseFatal c s) ∨
        (sequencingFault (requestNeed i) s.ropen = none ∧ t = requestAction i (clearOutputs s))) := by
  rw [exec_eq_perform] at h
  obtain ⟨-, hp⟩ | ⟨hf, c, hc, hp⟩ | ⟨hf, hc, hp⟩ := perform_cases (requestNeed i) (requestAction i) s <;>
    rw [hp] at h
  · cases h
  · cases h
    exact ⟨hf, .inl ⟨c, hc, rfl⟩⟩
  · cases h
    exact ⟨hf, .inr ⟨hc, rfl⟩⟩

/-- The sequencing check raises only its own two causes (60_exceptions.md R107). -/
theorem sequencingFault_cause {need : Need} {ropen : Bool} {c : Cause} (h : sequencingFault need ropen = some c) :
    c = .seqNotOpen ∨ c = .seqOpen := by
  cases need <;> cases ropen <;> simp_all

theorem sequencingFault_opened_eq_none_iff {ropen : Bool} : sequencingFault .opened ropen = none ↔ ropen = true := by
  cases ropen <;> simp

/-- A FEED passes its sequencing check whatever ROPEN is (40_framer.md R61). -/
theorem exec_feed_next {b : Byte} {s t : State} (h : exec (.feed b) s = .next t) :
    t = feedByte b (clearOutputs s) := by
  obtain ⟨-, ⟨c, hc, -⟩ | ⟨-, ht⟩⟩ := exec_cases h
  · simp [requestNeed] at hc
  · exact ht

/-! ### The transfer log -/

@[simp] theorem feedByte_txlog (b : Byte) (s : State) : (feedByte b s).txlog = s.txlog := by
  obtain ⟨-, h⟩ | ⟨-, h⟩ := feedByte_cases b s <;> rw [h]

/-- Only the emitting requests touch TXLOG (20_memory.md R37). -/
theorem requestAction_txlog_of_not_emits {i : Instr} (h : emits i = false) (s : State) :
    (requestAction i s).txlog = s.txlog := by
  cases i with
  | oscOn | setBrightness | setBlink | clear | renderCommit | writeRaw => cases h
  | feed b => exact feedByte_txlog b s
  | nop | feedEmpty | feedError | renderBegin | mergeOff | mergeG | mergeR | mergeY => rfl

/-- An emitting request adds the record of its transfer, whatever the actuator answers (10_state.md R24). -/
theorem requestAction_txlog_of_emits {i : Instr} (h : emits i = true) (s : State) :
    (requestAction i s).txlog = s.txlog ++ [⟨requestTransfer i s, actuatorAnswer s⟩] := by
  obtain ⟨ha, hr⟩ | ⟨ha, hr⟩ := emitting_cases h s <;> simp [hr, ha]

/-- `t`'s TXLOG is `s`'s with at most one record more (10_state.md R24). -/
def AddsOneRecordAtMost (s t : State) : Prop :=
  ∃ rs : List TxRecord, t.txlog = s.txlog ++ rs ∧ rs.length ≤ 1

theorem AddsOneRecordAtMost.of_eq {s t : State} (h : t.txlog = s.txlog) : AddsOneRecordAtMost s t :=
  ⟨[], by simp [h], by simp⟩

theorem exec_addsOneRecordAtMost {i : Instr} {s t : State} (h : exec i s = .next t) : AddsOneRecordAtMost s t := by
  obtain ⟨-, ⟨c, -, rfl⟩ | ⟨-, rfl⟩⟩ := exec_cases h
  · exact .of_eq rfl
  · cases he : emits i with
    | true => exact ⟨_, requestAction_txlog_of_emits he (clearOutputs s), by simp⟩
    | false => exact .of_eq (requestAction_txlog_of_not_emits he (clearOutputs s))

/-- Settles O12: a request adds its transfer's record or none, and neither the host nor a reserved byte makes a transfer. -/
theorem transferLogOnlyGrows : Obligations.TransferLogOnlyGrows := by
  intro s t h
  obtain ⟨-, ⟨i, rest, -, hexec⟩ | ⟨-, hhost⟩ | ⟨op, -, rfl⟩⟩ := step_cases h
  · exact (exec_addsOneRecordAtMost hexec : AddsOneRecordAtMost (withRequests rest s) t)
  · obtain ⟨-, -, -, -, -, -, hlog, -⟩ := hostMoveLeavesTheBlockAlone s t hhost
    exact AddsOneRecordAtMost.of_eq hlog
  · exact AddsOneRecordAtMost.of_eq rfl

/-! ### The framer and the step outputs -/

/-- WIDX after a FEED; the sum in `Fin 6` is modulo six (40_framer.md R65). -/
@[simp] theorem feedByte_widx (b : Byte) (s : State) : (feedByte b s).widx = s.widx + 1 := by
  obtain ⟨h5, h⟩ | ⟨-, h⟩ := feedByte_cases b s <;> rw [h]
  rw [h5]
  rfl

/-- A FEED before the sixth leaves the step outputs alone (10_state.md R25). -/
theorem feedByte_outputs_of_ne_five {s : State} (b : Byte) (h : s.widx ≠ 5) :
    (feedByte b s).frameOut = s.frameOut ∧ (feedByte b s).buttonsOut = s.buttonsOut := by
  obtain ⟨h5, -⟩ | ⟨-, hfeed⟩ := feedByte_cases b s
  · exact absurd h5 h
  · rw [hfeed]
    exact ⟨rfl, rfl⟩

/-- `t` has `s`'s framer, and no step outputs. -/
structure FramerIdle (s t : State) : Prop where
  fb         : t.fb = s.fb
  widx       : t.widx = s.widx
  frameOut   : t.frameOut = none
  buttonsOut : t.buttonsOut = none

theorem framerIdle_raiseFatal (c : Cause) (s : State) : FramerIdle s (raiseFatal c s) :=
  ⟨rfl, rfl, rfl, rfl⟩

theorem framerIdle_afterTransfer {s t : State} (i : Instr) (h : FramerIdle s t) : FramerIdle s (afterTransfer i t) := by
  obtain ⟨hfb, hwidx, hframe, hbuttons⟩ := h
  unfold afterTransfer
  split <;> exact ⟨hfb, hwidx, hframe, hbuttons⟩

theorem framerIdle_mergeInto (l : Layer) (c : Color) (s : State) : FramerIdle s (mergeInto l c (clearOutputs s)) :=
  ⟨by simp, by simp, by simp, by simp⟩

/-- A request other than FEED does nothing to the framer (20_memory.md R37). -/
theorem framerIdle_requestAction {i : Instr} (h : isFeed i = false) (s : State) :
    FramerIdle s (requestAction i (clearOutputs s)) := by
  cases he : emits i with
  | true =>
    obtain ⟨-, hr⟩ | ⟨-, hr⟩ := emitting_cases he (clearOutputs s) <;> rw [hr]
    · exact framerIdle_afterTransfer i ⟨by simp, by simp, by simp, by simp⟩
    · exact ⟨by simp, by simp, rfl, rfl⟩
  | false =>
    cases i with
    | feed => cases h
    | oscOn | setBrightness | setBlink | clear | renderCommit | writeRaw => cases he
    | nop | feedEmpty | feedError | renderBegin => exact ⟨rfl, rfl, rfl, rfl⟩
    | mergeOff l | mergeG l | mergeR l | mergeY l => exact framerIdle_mergeInto l _ s

theorem exec_framerIdle {i : Instr} {s t : State} (h : isFeed i = false) (hexec : exec i s = .next t) :
    FramerIdle s t := by
  obtain ⟨-, ⟨c, -, rfl⟩ | ⟨-, rfl⟩⟩ := exec_cases hexec
  · exact framerIdle_raiseFatal c s
  · exact framerIdle_requestAction h s

theorem isFeed_iff {i : Instr} : isFeed i = true ↔ ∃ b, i = .feed b := by
  cases i <;> simp [isFeed]

/-- Settles O19: a FEED moves the index by one modulo six, and any other request leaves the framer idle. -/
theorem writeIndexCountsFeeds : Obligations.WriteIndexCountsFeeds := by
  intro i s t h
  cases hi : isFeed i with
  | true =>
    obtain ⟨b, rfl⟩ := isFeed_iff.mp hi
    rw [exec_feed_next h, feedByte_widx]
    rfl
  | false => rw [(exec_framerIdle hi h).widx]; rfl

/-- Settles O20: a request other than FEED leaves no outputs, and neither does a FEED before the sixth. -/
theorem outputsOnlyFromACompletingFeed : Obligations.OutputsOnlyFromACompletingFeed := by
  intro i s t h hout
  cases hi : isFeed i with
  | false =>
    obtain ⟨-, -, hframe, hbuttons⟩ := exec_framerIdle hi h
    simp [hframe, hbuttons] at hout
  | true =>
    refine ⟨rfl, ?_⟩
    obtain ⟨b, rfl⟩ := isFeed_iff.mp hi
    by_contra h5
    obtain ⟨hframe, hbuttons⟩ := feedByte_outputs_of_ne_five (s := clearOutputs s) b h5
    simp [exec_feed_next h, hframe, hbuttons] at hout

/-! ### The four transfers -/

/-- The brightness byte of a level 0 to 15 (30_encoding.md R57). -/
def brightnessByte (l : BitVec 4) : Byte :=
  0xE0 ||| l.setWidth 8

/-- The blink byte of a rate 0 to 3 (30_encoding.md R57). -/
def blinkByte (r : BitVec 2) : Byte :=
  0x81 ||| (r.setWidth 8 <<< 1)

/-- A brightness byte is told from the other commands by its high half, and its low half is the level. -/
theorem brightnessByte_fields (l : BitVec 4) :
    brightnessByte l ≠ 0x21 ∧ brightnessByte l &&& 0xF0 = 0xE0 ∧ (brightnessByte l).extractLsb' 0 4 = l := by
  revert l; decide

/-- A blink byte is told from the other commands by all but two bits, and those two are the rate. -/
theorem blinkByte_fields (r : BitVec 2) :
    blinkByte r ≠ 0x21 ∧ blinkByte r &&& 0xF0 ≠ 0xE0 ∧ blinkByte r &&& 0xF9 = 0x81 ∧
      (blinkByte r).extractLsb' 1 2 = r := by
  revert r; decide

/-- A byte below `2 ^ k` is its low `k` bits. -/
theorem setWidth_setWidth_of_lt {b : Byte} {k : Nat} (h : b.toNat < 2 ^ k) : (b.setWidth k).setWidth 8 = b := by
  apply BitVec.eq_of_toNat_eq
  rw [BitVec.toNat_setWidth, BitVec.toNat_setWidth, Nat.mod_eq_of_lt h, Nat.mod_eq_of_lt b.isLt]

/-- The level sent has four bits (42_device_control.md R75). -/
theorem brightnessTransfer_eq (level : Byte) : ∃ l, brightnessTransfer level = [brightnessByte l] := by
  unfold brightnessTransfer reduceLevel
  split
  case isTrue h =>
    have hl : level.toNat < 2 ^ 4 := Nat.lt_succ_of_le h
    exact ⟨level.setWidth 4, by rw [brightnessByte, setWidth_setWidth_of_lt hl]; rfl⟩
  case isFalse => exact ⟨15, rfl⟩

/-- The rate sent has two bits (42_device_control.md R76). -/
theorem blinkTransfer_eq (rate : Byte) : ∃ r, blinkTransfer rate = [blinkByte r] := by
  unfold blinkTransfer reduceRate
  split
  case isTrue h =>
    have hr : rate.toNat < 2 ^ 2 := Nat.lt_succ_of_le h
    exact ⟨rate.setWidth 2, by rw [blinkByte, setWidth_setWidth_of_lt hr]; rfl⟩
  case isFalse => exact ⟨0, rfl⟩

theorem legalTransfer_singleton (b : Byte) :
    legalTransfer [b] = true ↔ b = 0x21 ∨ b &&& 0xF0 = 0xE0 ∨ b &&& 0xF9 = 0x81 := by
  simp [legalTransfer, or_assoc]

theorem legalTransfer_brightnessByte (l : BitVec 4) : legalTransfer [brightnessByte l] = true := by
  obtain ⟨-, hop, -⟩ := brightnessByte_fields l
  exact (legalTransfer_singleton _).mpr (.inr (.inl hop))

theorem legalTransfer_blinkByte (r : BitVec 2) : legalTransfer [blinkByte r] = true := by
  obtain ⟨-, -, hop, -⟩ := blinkByte_fields r
  exact (legalTransfer_singleton _).mpr (.inr (.inr hop))

theorem legalTransfer_displayWrite {bytes : List Byte} (hlen : bytes.length = 17) (haddr : bytes.head? = some 0x00) :
    legalTransfer bytes = true := by
  unfold legalTransfer
  split
  · simp at hlen
  · simp [hlen, haddr]

theorem bufferTransfer_head? (wb : Buffer) : (bufferTransfer wb).head? = some wb[0] := by
  simp [bufferTransfer, List.head?_eq_getElem?]

/-- Every request's transfer is one of the four; RENDER_COMMIT's is one where WB[0] is the address byte. -/
theorem legalTransfer_requestTransfer {i : Instr} {s : State} (he : emits i = true)
    (hwb : i = .renderCommit → s.wb[0] = 0x00) : legalTransfer (requestTransfer i s) = true := by
  cases i with
  | nop | feed | feedEmpty | feedError | renderBegin | mergeOff | mergeG | mergeR | mergeY => cases he
  | oscOn | clear => rfl
  | setBrightness level =>
    obtain ⟨l, hl⟩ := brightnessTransfer_eq level
    simp only [requestTransfer, hl, legalTransfer_brightnessByte]
  | setBlink rate =>
    obtain ⟨r, hr⟩ := blinkTransfer_eq rate
    simp only [requestTransfer, hr, legalTransfer_blinkByte]
  | renderCommit =>
    exact legalTransfer_displayWrite (by simp [requestTransfer, bufferTransfer])
      (by rw [requestTransfer, bufferTransfer_head?, hwb rfl])
  | writeRaw d => exact legalTransfer_displayWrite (by simp [requestTransfer, displayTransfer]) rfl

/-! ### The block's invariant -/

/-- No merge touches the address byte (43_display_buffer.md R78). -/
@[simp] theorem mergeLayer_address_byte (wb : Buffer) (l : Layer) (c : Color) : (mergeLayer wb l c)[0] = wb[0] := by
  rw [mergeLayer_getElem]
  rfl

/-- Every code that can be raised is one of the five (60_exceptions.md R106). -/
theorem causeCode_mem (c : Cause) : causeCode c ∈ [0x01, 0x02, 0x03, 0x04, 0x05] := by
  cases c <;> decide

theorem causeCode_eq_txIoError_iff (c : Cause) : causeCode c = 0x02 ↔ c = .txIoError := by
  cases c <;> decide

namespace BlockInv

variable {s : State}

/-- A running block has no failed transfer behind it. -/
theorem not_failed_of_running (h : BlockInv s) (hf : s.fatal = false) : ¬∃ r ∈ s.txlog, r.ok = false := by
  simp [h.failed_transfer, hf]

theorem withRequests (h : BlockInv s) (rest : List Byte) : BlockInv (withRequests rest s) :=
  { h with }

theorem clearOutputs (h : BlockInv s) : BlockInv (clearOutputs s) :=
  { h with outputs_paired := rfl }

/-- A fault that is not a failed transfer's leaves the log of a running block without a failed record. -/
theorem raiseFatal (h : BlockInv s) (hf : s.fatal = false) {c : Cause} (hc : c ≠ .txIoError) :
    BlockInv (raiseFatal c s) where
  idle_cause hrun := by cases hrun
  raised_cause _ := causeCode_mem c
  address_byte := h.address_byte
  legal_transfers := h.legal_transfers
  failed_transfer := by
    have hcode : ¬causeCode c = 0x02 := (causeCode_eq_txIoError_iff c).not.mpr hc
    exact iff_of_false (h.not_failed_of_running hf) fun hfail => hcode hfail.2
  outputs_paired := rfl

theorem legal_transfers_append (h : BlockInv s) {seq : List Byte} (hseq : legalTransfer seq = true) (ok : Bool) :
    ∀ r ∈ s.txlog ++ [⟨seq, ok⟩], legalTransfer r.bytes = true := by
  simpa [or_imp, forall_and, hseq] using h.legal_transfers

/-- A successful transfer adds a record that has not failed. -/
theorem transfer_ok (h : BlockInv s) (hf : s.fatal = false) {seq : List Byte} (hseq : legalTransfer seq = true) :
    BlockInv { actuatorDrawn s with txlog := s.txlog ++ [⟨seq, true⟩] } where
  idle_cause := by simpa using h.idle_cause
  raised_cause := by simp [hf]
  address_byte := by simpa using h.address_byte
  legal_transfers := h.legal_transfers_append hseq true
  failed_transfer := by simpa [hf] using h.not_failed_of_running hf
  outputs_paired := by simpa using h.outputs_paired

/-- A failed transfer adds the failed record that TX_IO_ERROR stands for (60_exceptions.md R109). -/
theorem transfer_failed (h : BlockInv s) {seq : List Byte} (hseq : legalTransfer seq = true) :
    BlockInv (Machine.raiseFatal .txIoError { actuatorDrawn s with txlog := s.txlog ++ [⟨seq, false⟩] }) where
  idle_cause hrun := by cases hrun
  raised_cause _ := causeCode_mem .txIoError
  address_byte := by simpa using h.address_byte
  legal_transfers := h.legal_transfers_append hseq false
  failed_transfer := iff_of_true ⟨⟨seq, false⟩, by simp⟩ ⟨rfl, rfl⟩
  outputs_paired := rfl

theorem afterTransfer (h : BlockInv s) (i : Instr) : BlockInv (afterTransfer i s) := by
  unfold Machine.afterTransfer
  split
  · exact { h with address_byte := by simp }
  · exact h

theorem feedByte (h : BlockInv s) (b : Byte) : BlockInv (feedByte b s) := by
  obtain ⟨-, hfeed⟩ | ⟨-, hfeed⟩ := feedByte_cases b s <;> rw [hfeed]
  · exact { h with outputs_paired := rfl }
  · exact { h with }

theorem openRender (h : BlockInv s) : BlockInv (openRender s) :=
  { h with address_byte := fun _ => rfl }

theorem mergeInto (h : BlockInv s) (l : Layer) (c : Color) : BlockInv (mergeInto l c s) where
  idle_cause := by simpa using h.idle_cause
  raised_cause := by simpa using h.raised_cause
  address_byte := by simpa using h.address_byte
  legal_transfers := by simpa using h.legal_transfers
  failed_transfer := by simpa using h.failed_transfer
  outputs_paired := by simpa using h.outputs_paired

/-- An emitting request keeps the invariant; a RENDER_COMMIT has passed its sequencing check, so that WB[0] is 0x00. -/
theorem requestAction_of_emits (h : BlockInv s) (hf : s.fatal = false) {i : Instr} (he : emits i = true)
    (hopen : i = .renderCommit → s.ropen = true) : BlockInv (requestAction i s) := by
  have hseq : legalTransfer (requestTransfer i s) = true :=
    legalTransfer_requestTransfer he fun hi => h.address_byte (hopen hi)
  obtain ⟨-, hr⟩ | ⟨-, hr⟩ := emitting_cases he s <;> rw [hr]
  · exact (h.transfer_ok hf hseq).afterTransfer i
  · exact h.transfer_failed hseq

/-- What a request does once its checks have passed keeps the invariant. -/
theorem requestAction (h : BlockInv s) (hf : s.fatal = false) {i : Instr}
    (hopen : i = .renderCommit → s.ropen = true) : BlockInv (requestAction i s) := by
  cases i with
  | nop | feedEmpty => exact h
  | feed b => exact h.feedByte b
  | feedError => exact h.raiseFatal hf (by decide)
  | oscOn | setBrightness | setBlink | clear | renderCommit | writeRaw => exact h.requestAction_of_emits hf rfl hopen
  | renderBegin => exact h.openRender
  | mergeOff l | mergeG l | mergeR l | mergeY l => exact h.mergeInto l _

theorem exec {t : State} (h : BlockInv s) {i : Instr} (hexec : exec i s = .next t) : BlockInv t := by
  obtain ⟨hf, ⟨c, hc, rfl⟩ | ⟨hc, rfl⟩⟩ := exec_cases hexec
  · apply h.raiseFatal hf
    obtain rfl | rfl := sequencingFault_cause hc <;> decide
  · apply h.clearOutputs.requestAction hf
    rintro rfl
    exact sequencingFault_opened_eq_none_iff.mp hc

theorem onlyPresents {t : State} (h : BlockInv s) (hp : OnlyPresents s t) : BlockInv t := by
  obtain ⟨is, host, sensorTape, transportTape, draws, rfl⟩ := hp
  exact { h with }

end BlockInv

/-- Settles O46: the actions of the requests, the host's moves and the refusal of a reserved byte each keep the invariant. -/
theorem blockInvariantKeptByStep : Obligations.BlockInvariantKeptByStep := by
  intro s t h hstep
  obtain ⟨hf, ⟨i, rest, -, hexec⟩ | ⟨-, hhost⟩ | ⟨op, -, rfl⟩⟩ := step_cases hstep
  · exact (h.withRequests rest).exec hexec
  · obtain ⟨-, rfl⟩ := hostMove_next hhost
    exact (h.onlyPresents (OnlyPresents.of_hostAction s.host.pos s)).clearOutputs
  · exact (h.withRequests s.reqs.tail).raiseFatal hf (by decide)

/-- Settles O58: with nothing pending and nothing sent, every clause of both invariants is a fixed value's. -/
theorem invariantsHoldAtReset : Obligations.InvariantsHoldAtReset := by
  have hblock : BlockInv State.reset := ⟨by decide, by decide, by decide, by decide, by decide, rfl⟩
  have hhost : HostInv State.reset := fun _ => ⟨[], rfl, rfl, fun hack => absurd hack (by decide)⟩
  exact ⟨hblock, hhost⟩

/-! ### STATUS and reset -/

/-- Every bit of STATUS (10_state.md R26). -/
theorem status_getLsbD (s : State) (k : Nat) :
    (status s).getLsbD k =
      if k < 8 then s.cause.getLsbD k
      else if k < 11 then (BitVec.ofNat 3 s.widx.val).getLsbD (k - 8)
      else if k < 14 then false
      else if k < 15 then s.ropen
      else decide (k = 15) && s.fatal := by
  have happend : (status s).getLsbD k = BitVec.getLsbD (w := 1 + 1 + 3 + 3 + 8)
      (BitVec.ofBool s.fatal ++ BitVec.ofBool s.ropen ++ (0 : BitVec 3) ++ BitVec.ofNat 3 s.widx.val ++ s.cause) k := rfl
  have h11 : k - 8 < 3 ↔ k < 11 := by omega
  have h14 : k - 8 - 3 < 3 ↔ k < 14 := by omega
  have h15 : k - 8 - 3 - 3 < 1 ↔ k < 15 := by omega
  simp only [happend, BitVec.getLsbD_append, BitVec.getLsbD_ofBool, h11, h14, h15]
  split_ifs with hcause hwidx hzero hropen
  · rfl
  · rfl
  · exact BitVec.getLsbD_zero
  · have hk : k - 8 - 3 - 3 = 0 := by omega
    simp [hk]
  · have hk : k - 8 - 3 - 3 - 1 = 0 ↔ k = 15 := by omega
    simp only [hk]

/-- Settles O13: each field is read bit by bit from the word's layout; an index below 6 fits its three bits. -/
theorem statusWordFields : Obligations.StatusWordFields := by
  intro s
  have hwidx : (status s).extractLsb' 8 3 = BitVec.ofNat 3 s.widx.val := by
    ext i hi
    have h11 : 8 + i < 11 := by omega
    simp [status_getLsbD, h11, hi]
  refine ⟨?_, ?_, ?_, ?_, ?_⟩
  · rw [status_getLsbD]; rfl
  · rw [status_getLsbD]; rfl
  · ext i hi
    have h8 : ¬11 + i < 8 := by omega
    have h14 : 11 + i < 14 := by omega
    simp [status_getLsbD, h8, h14]
  · rw [hwidx, BitVec.toNat_ofNat]
    omega
  · ext i hi
    simp [status_getLsbD, hi]
/-- Settles O14: the reset state is a literal, and an empty log leaves every actuator field unknown. -/
theorem resetLeavesTheStatedValues : Obligations.ResetLeavesTheStatedValues :=
  ⟨rfl, rfl, rfl, rfl, rfl, rfl, rfl⟩

/-! ### The actuator -/

theorem actuatorFields_append_one (log : List TxRecord) (r : TxRecord) :
    actuatorFields (log ++ [r]) = applyTransfer (actuatorFields log) r := by
  simp [actuatorFields]

theorem applyTransfer_oscOn (f : ActuatorFields) (ok : Bool) :
    applyTransfer f ⟨[0x21], ok⟩ = { f with osc := fieldAfter ok true } := rfl

theorem applyTransfer_brightnessByte (f : ActuatorFields) (l : BitVec 4) (ok : Bool) :
    applyTransfer f ⟨[brightnessByte l], ok⟩ = { f with bright := fieldAfter ok l } := by
  obtain ⟨hosc, hop, hl⟩ := brightnessByte_fields l
  simp only [applyTransfer, applyCommand, Config.opOscOn, Config.opBright, hosc, hop, hl, if_true, if_false]

theorem applyTransfer_blinkByte (f : ActuatorFields) (r : BitVec 2) (ok : Bool) :
    applyTransfer f ⟨[blinkByte r], ok⟩ = { f with blink := fieldAfter ok r, dispOn := fieldAfter ok true } := by
  obtain ⟨hosc, hbright, hop, hr⟩ := blinkByte_fields r
  have hop' : blinkByte r &&& 0xF9 = Config.opBlink ||| Config.dispOnBit := hop
  simp only [applyTransfer, applyCommand, Config.opOscOn, Config.opBright, hosc, hbright, hop', hr, if_true, if_false]

theorem displayImage_displayWrite (d : Image) : displayImage (0x00 :: d.toList) = some d := by
  have htake : takeBytes 16 d.toList = some (d, []) := by simpa using takeBytes_append d []
  simp [displayImage, htake, Config.dbufAddr]

theorem applyTransfer_displayWrite (f : ActuatorFields) (d : Image) (ok : Bool) :
    applyTransfer f ⟨0x00 :: d.toList, ok⟩ = { f with ram := fieldAfter ok d } := by
  unfold applyTransfer
  split
  case h_1 b hb =>
    have hlen := congrArg List.length hb
    simp at hlen
  case h_2 => rw [displayImage_displayWrite]

/-- Settles O47: the record's transfer writes its field, and a successful one leaves the value known. -/
theorem successfulTransferSetsItsField : Obligations.SuccessfulTransferSetsItsField := by
  intro log
  simp only [actuatorFields_append_one]
  exact ⟨applyTransfer_oscOn _ true, fun l => applyTransfer_brightnessByte _ l true,
    fun r => applyTransfer_blinkByte _ r true, fun d => applyTransfer_displayWrite _ d true⟩

/-- Settles O48: the record's transfer writes its field, and a failed one leaves no known value there. -/
theorem failedTransferLeavesFieldUnknown : Obligations.FailedTransferLeavesFieldUnknown := by
  refine ⟨rfl, fun log => ?_⟩
  simp only [actuatorFields_append_one]
  exact ⟨applyTransfer_oscOn _ false, fun l => applyTransfer_brightnessByte _ l false,
    fun r => applyTransfer_blinkByte _ r false, fun d => applyTransfer_displayWrite _ d false⟩

end Sys2Proof.Machine
end

section
/-! The block's memory (20_memory.md): what each request may write of the state, and the image that a buffer's bytes make. -/

namespace Sys2Proof.Machine

/-! ### What a request writes -/

/-- What no request writes is in `t` as in `s`: the stream of requests, the host, the parameters, and the answers that are
not the actuator's (20_memory.md R37). -/
structure SurroundingsKept (s t : State) : Prop where
  reqs          : t.reqs = s.reqs
  host          : t.host = s.host
  btnMap        : t.btnMap = s.btnMap
  sensorTape    : t.sensorTape = s.sensorTape
  transportTape : t.transportTape = s.transportTape

/-- What an emitting request `i` keeps from `s` to `t`: the surroundings, WB, and ROPEN unless `i` is RENDER_COMMIT
(20_memory.md R37). -/
structure TransferFrame (i : Instr) (s t : State) : Prop where
  surroundings : SurroundingsKept s t
  wb           : t.wb = s.wb
  ropen        : i ≠ .renderCommit → t.ropen = s.ropen

theorem transferFrame_afterTransfer {i : Instr} {s t : State} (h : TransferFrame i s t) :
    TransferFrame i s (afterTransfer i t) := by
  unfold afterTransfer
  split
  case isTrue hi => exact ⟨{ h.surroundings with }, h.wb, absurd hi⟩
  case isFalse => exact h

/-- An emitting request keeps its transfer's frame, whatever the actuator answers. -/
theorem transferFrame_requestAction {i : Instr} (he : emits i = true) (s : State) :
    TransferFrame i s (requestAction i s) := by
  have hdrawn (r : TxRecord) : TransferFrame i s { actuatorDrawn s with txlog := s.txlog ++ [r] } :=
    ⟨⟨by simp, by simp, by simp, by simp, by simp⟩, by simp, by simp⟩
  obtain ⟨-, hr⟩ | ⟨-, hr⟩ := emitting_cases he s <;> rw [hr]
  · exact transferFrame_afterTransfer (hdrawn _)
  · obtain ⟨⟨hreqs, hhost, hmap, hsensor, htransport⟩, hwb, hropen⟩ := hdrawn ⟨requestTransfer i s, false⟩
    exact ⟨⟨hreqs, hhost, hmap, hsensor, htransport⟩, hwb, hropen⟩

/-- A FEED writes the framer and the step outputs, and nothing else (40_framer.md R61). -/
theorem feedByte_frame (b : Byte) (s : State) :
    ∃ fb widx frameOut buttonsOut,
      feedByte b s = { s with fb := fb, widx := widx, frameOut := frameOut, buttonsOut := buttonsOut } := by
  obtain ⟨-, h⟩ | ⟨-, h⟩ := feedByte_cases b s <;> exact ⟨_, _, _, _, h⟩

theorem surroundingsKept_mergeInto (l : Layer) (c : Color) (s : State) : SurroundingsKept s (mergeInto l c s) :=
  ⟨by simp, by simp, by simp, by simp, by simp⟩

theorem surroundingsKept_requestAction (i : Instr) (s : State) : SurroundingsKept s (requestAction i s) := by
  cases i with
  | oscOn | setBrightness | setBlink | clear | renderCommit | writeRaw =>
    exact (transferFrame_requestAction rfl s).surroundings
  | feed b =>
    obtain ⟨_, _, _, _, h⟩ := feedByte_frame b s
    rw [requestAction, h]
    exact ⟨rfl, rfl, rfl, rfl, rfl⟩
  | nop | feedEmpty | feedError | renderBegin => exact ⟨rfl, rfl, rfl, rfl, rfl⟩
  | mergeOff l | mergeG l | mergeR l | mergeY l => exact surroundingsKept_mergeInto l _ s

/-- Off selects no plane (30_encoding.md R51). -/
theorem selectsOffset_off (k : Fin 17) : selectsOffset .off k = false := by
  revert k; decide

/-- A merge of Off leaves the buffer as it is (43_display_buffer.md R81). -/
@[simp] theorem mergeLayer_off (wb : Buffer) (l : Layer) : mergeLayer wb l .off = wb := by
  ext k hk
  rw [mergeLayer_getElem, selectsOffset_off]
  simp

theorem requestAction_wb_of_not_writesBuffer {i : Instr} (h : writesBuffer i = false) (s : State) :
    (requestAction i s).wb = s.wb := by
  cases i with
  | renderBegin | mergeG | mergeR | mergeY => cases h
  | oscOn | setBrightness | setBlink | clear | renderCommit | writeRaw => exact (transferFrame_requestAction rfl s).wb
  | feed b => obtain ⟨_, _, _, _, h⟩ := feedByte_frame b s; rw [requestAction, h]
  | mergeOff l => exact mergeLayer_off s.wb l
  | nop | feedEmpty | feedError => rfl

theorem requestAction_ropen {i : Instr} (hbegin : i ≠ .renderBegin) (hcommit : i ≠ .renderCommit) (s : State) :
    (requestAction i s).ropen = s.ropen := by
  cases i with
  | renderBegin => contradiction
  | oscOn | setBrightness | setBlink | clear | renderCommit | writeRaw =>
    exact (transferFrame_requestAction rfl s).ropen hcommit
  | feed b => obtain ⟨_, _, _, _, h⟩ := feedByte_frame b s; rw [requestAction, h]
  | nop | feedEmpty | feedError => rfl
  | mergeOff l | mergeG l | mergeR l | mergeY l => exact mergeInto_ropen l _ s

/-- Only the emitting requests take an answer of the actuator (20_memory.md R37). -/
theorem requestAction_answers_of_not_emits {i : Instr} (h : emits i = false) (s : State) :
    (requestAction i s).actuatorTape = s.actuatorTape ∧ (requestAction i s).draws = s.draws := by
  cases i with
  | oscOn | setBrightness | setBlink | clear | renderCommit | writeRaw => cases h
  | feed b =>
    obtain ⟨_, _, _, _, h⟩ := feedByte_frame b s
    rw [requestAction, h]
    exact ⟨rfl, rfl⟩
  | nop | feedEmpty | feedError | renderBegin => exact ⟨rfl, rfl⟩
  | mergeOff l | mergeG l | mergeR l | mergeY l => exact ⟨mergeInto_actuatorTape l _ s, mergeInto_draws l _ s⟩

/-- Settles O10: a failed sequencing check raises its fault and writes nothing named here; past it, each element is kept by
the actions of the requests that R37 does not list as its writers. -/
theorem requestsWriteOnlyTheirState : Obligations.RequestsWriteOnlyTheirState := by
  intro i s t h
  have hframer (hi : isFeed i = false) : t.fb = s.fb ∧ t.widx = s.widx ∧ t.frameOut = none ∧ t.buttonsOut = none := by
    obtain ⟨hfb, hwidx, hframe, hbuttons⟩ := exec_framerIdle hi h
    exact ⟨hfb, hwidx, hframe, hbuttons⟩
  have hrecord : AddsOneRecordAtMost s t := exec_addsOneRecordAtMost h
  obtain ⟨-, ⟨c, -, rfl⟩ | ⟨-, rfl⟩⟩ := exec_cases h
  · exact ⟨rfl, rfl, rfl, rfl, rfl, hframer, fun _ => rfl, fun _ _ => rfl, fun _ => ⟨rfl, rfl, rfl⟩, hrecord⟩
  · obtain ⟨hreqs, hhost, hmap, hsensor, htransport⟩ := surroundingsKept_requestAction i (clearOutputs s)
    exact ⟨hreqs, hhost, hmap, hsensor, htransport, hframer,
      fun hwb => requestAction_wb_of_not_writesBuffer hwb _,
      fun hbegin hcommit => requestAction_ropen hbegin hcommit _,
      fun he => ⟨requestAction_txlog_of_not_emits he _, requestAction_answers_of_not_emits he _⟩, hrecord⟩

/-! ### The image of a buffer -/

/-- The bytes of an image are the address byte and then its data (30_encoding.md R57). -/
theorem displayImage_some {bytes : List Byte} {d : Image} (h : displayImage bytes = some d) :
    bytes = 0x00 :: d.toList := by
  unfold displayImage at h
  split at h
  case h_2 => cases h
  case h_1 addr data =>
    split at h
    case h_2 => cases h
    case h_1 e htake =>
      obtain ⟨rfl, hde⟩ := Option.ite_none_right_eq_some.mp h
      cases hde
      rw [takeBytes_some htake, List.append_nil]
      rfl

/-- The image of a buffer holds the bytes behind its address byte (20_memory.md R34). -/
theorem getElem_of_displayImage {wb : Buffer} {d : Image} (h : displayImage wb.toList = some d) (k : Nat) (hk : k < 16) :
    d[k] = wb[k + 1] := by
  have hbyte : wb.toList[k + 1]? = (0x00 :: d.toList)[k + 1]? := by rw [displayImage_some h]
  have hlt : k + 1 < 17 := by omega
  simpa [hk, hlt] using hbyte.symm

theorem imageGreen_of_displayImage {wb : Buffer} {d : Image} (h : displayImage wb.toList = some d) (r : Fin 8) :
    imageGreen d r = wb[greenOffset r] := by
  have hoffset : 1 + 2 * r.val = 2 * r.val + 1 := Nat.add_comm ..
  simp [imageGreen, getElem_of_displayImage h, greenOffset, hoffset]

theorem imageRed_of_displayImage {wb : Buffer} {d : Image} (h : displayImage wb.toList = some d) (r : Fin 8) :
    imageRed d r = wb[redOffset r] := by
  have hoffset : 2 + 2 * r.val = 2 * r.val + 1 + 1 := Nat.add_comm ..
  simp [imageRed, getElem_of_displayImage h, redOffset, hoffset]

/-- The green byte of a row after a merge (43_display_buffer.md R78). -/
theorem mergeLayer_greenOffset (wb : Buffer) (l : Layer) (c : Color) (r : Fin 8) :
    (mergeLayer wb l c)[greenOffset r] =
      if selectsGreen c then wb[greenOffset r] ||| l[r] else wb[greenOffset r] := by
  simp [mergeLayer]

/-- The red byte of a row after a merge (43_display_buffer.md R78). -/
theorem mergeLayer_redOffset (wb : Buffer) (l : Layer) (c : Color) (r : Fin 8) :
    (mergeLayer wb l c)[redOffset r] =
      if selectsRed c then wb[redOffset r] ||| l[r] else wb[redOffset r] := by
  simp [mergeLayer]

/-- A bit of a zeroed byte after a merge: the layer's bit where the plane is selected. -/
theorem getLsbD_merged_zero (selected : Bool) (b : Byte) (k : Nat) :
    (if selected then 0x00#8 ||| b else 0x00#8).getLsbD k = (selected && b.getLsbD k) := by
  cases selected <;> simp

/-- A colour is the one whose planes it selects, and no plane is Off (30_encoding.md R51). -/
theorem colorOfPlanes_selected (c : Color) (bit : Bool) :
    colorOfPlanes (selectsGreen c && bit) (selectsRed c && bit) = if bit then c else .off := by
  cases c <;> cases bit <;> rfl

/-- Settles O42: each plane of the cell is the layer's bit where the colour selects the plane, and the colour of the two
planes is then the merged one or Off. -/
theorem mergedCellShowsItsColor : Obligations.MergedCellShowsItsColor := by
  intro l c d row col hd
  have hgreen : imageGreen d row = if selectsGreen c then 0x00#8 ||| l[row] else 0x00#8 := by
    rw [imageGreen_of_displayImage hd, mergeLayer_greenOffset]
    simp
  have hred : imageRed d row = if selectsRed c then 0x00#8 ||| l[row] else 0x00#8 := by
    rw [imageRed_of_displayImage hd, mergeLayer_redOffset]
    simp
  rw [cellColor, hgreen, hred, getLsbD_merged_zero, getLsbD_merged_zero, colorOfPlanes_selected]

end Sys2Proof.Machine
end

section
/-! The encodings (30_encoding.md): everything the decoder can do with an opcode byte, and from it that the decoder and the
encoder are inverse, which byte sequences are requests and which bytes are reserved; and the bits of the button vector. -/

namespace Sys2Proof.Machine

/-! ### Decoder and encoder -/

/-- Operand bytes of formats M and W read back (30_encoding.md R48). -/
theorem decodeBytes_append {n : Nat} (op : Byte) (mk : Vector Byte n → Instr) (v : Vector Byte n) (rest : List Byte) :
    decodeBytes n op mk (v.toList ++ rest) = .ok (mk v, rest) := by
  simp [decodeBytes]

/-- Settles O1: an opcode byte selects its row's format, and the format reads back the operands it wrote. -/
theorem decodeOfEncodeIsTheRequest : Obligations.DecodeOfEncodeIsTheRequest := by
  intro i rest
  cases i with
  | nop | feedEmpty | feedError | oscOn | clear | renderBegin | renderCommit => rfl
  | feed b | setBrightness b | setBlink b => rfl
  | mergeOff v | mergeG v | mergeR v | mergeY v | writeRaw v => exact decodeBytes_append _ _ v rest

/-- How a result is read from an opcode byte and the stream after it: the byte is reserved, or it is the opcode byte of the
requests of one format, and that format reads the operands (30_encoding.md R48, R52, R54). -/
inductive ReadsAs (op : Byte) (operands : List Byte) : DecodeResult → Prop where
  | reserved (h : inReservedRanges op = true) : ReadsAs op operands (.error (.reserved op))
  | plain (i : Instr) (h : encode i = [op]) : ReadsAs op operands (.ok (i, operands))
  | imm (mk : Byte → Instr) (h : ∀ b, encode (mk b) = [op, b]) : ReadsAs op operands (decodeImm op mk operands)
  | bytes (n : Nat) (mk : Vector Byte n → Instr) (h : ∀ v, encode (mk v) = op :: v.toList) :
      ReadsAs op operands (decodeBytes n op mk operands)

/-- Everything the decoder can do with an opcode byte. -/
theorem decodeRequest_readsAs (op : Byte) (operands : List Byte) : ReadsAs op operands (decodeRequest (op :: operands)) := by
  dsimp only [decodeRequest]
  split
  case h_1 hop | h_3 hop | h_4 hop | h_5 hop | h_8 hop | h_9 hop | h_10 hop =>
    obtain ⟨-, rfl⟩ := BitVec.toNat_eq_nat.mp hop
    exact .plain _ rfl
  case h_2 hop | h_6 hop | h_7 hop =>
    obtain ⟨-, rfl⟩ := BitVec.toNat_eq_nat.mp hop
    exact .imm _ fun _ => rfl
  case h_11 hop | h_12 hop | h_13 hop | h_14 hop | h_15 hop =>
    obtain ⟨-, rfl⟩ := BitVec.toNat_eq_nat.mp hop
    exact .bytes _ _ fun _ => rfl
  case h_16 =>
    refine .reserved ?_
    simp only [inReservedRanges, Bool.or_eq_true, Bool.and_eq_true, decide_eq_true_eq, beq_iff_eq, imp_false] at *
    omega

theorem decodeImm_ok {op : Byte} {mk : Byte → Instr} {operands rest : List Byte} {i : Instr}
    (h : decodeImm op mk operands = .ok (i, rest)) : ∃ b, i = mk b ∧ operands = b :: rest := by
  cases operands with
  | nil => cases h
  | cons b bs => cases h; exact ⟨b, rfl, rfl⟩

theorem decodeBytes_ok {n : Nat} {op : Byte} {mk : Vector Byte n → Instr} {operands rest : List Byte} {i : Instr}
    (h : decodeBytes n op mk operands = .ok (i, rest)) : ∃ v, i = mk v ∧ operands = v.toList ++ rest := by
  unfold decodeBytes at h
  split at h
  case h_1 => cases h
  case h_2 v _ htake => cases h; exact ⟨v, rfl, takeBytes_some htake⟩

/-- Settles O2: the opcode byte is the one its format's requests encode, and the operands the format reads stood next in
the stream. -/
theorem decodedBytesAreTheEncoding : Obligations.DecodedBytesAreTheEncoding := by
  intro bs i rest h
  cases bs with
  | nil => cases h
  | cons op operands =>
    have hreads := decodeRequest_readsAs op operands
    rw [h] at hreads
    generalize hr : (.ok (i, rest) : DecodeResult) = r at hreads
    cases hreads with
    | reserved => cases hr
    | plain i henc => cases hr; rw [henc]; rfl
    | imm mk henc =>
      obtain ⟨b, rfl, rfl⟩ := decodeImm_ok hr.symm
      rw [henc]; rfl
    | bytes n mk henc =>
      obtain ⟨v, rfl, rfl⟩ := decodeBytes_ok hr.symm
      rw [henc]; rfl

/-! ### Well-formed byte sequences -/

/-- Every request's bytes pass the checks (30_encoding.md R48, R49). -/
theorem requestWellFormed_encode (i : Instr) : requestWellFormed (encode i) = true := by
  have hformed : Laws.Formed.Statement i := by
    cases i with
    | nop => exact Laws.Formed.nop
    | feed b => exact Laws.Formed.feed b
    | feedEmpty => exact Laws.Formed.feedEmpty
    | feedError => exact Laws.Formed.feedError
    | oscOn => exact Laws.Formed.oscOn
    | setBrightness level => exact Laws.Formed.setBrightness level
    | setBlink rate => exact Laws.Formed.setBlink rate
    | clear => exact Laws.Formed.clear
    | renderBegin => exact Laws.Formed.renderBegin
    | renderCommit => exact Laws.Formed.renderCommit
    | mergeOff layer => exact Laws.Formed.mergeOff layer
    | mergeG layer => exact Laws.Formed.mergeG layer
    | mergeR layer => exact Laws.Formed.mergeR layer
    | mergeY layer => exact Laws.Formed.mergeY layer
    | writeRaw d => exact Laws.Formed.writeRaw d
  exact hformed.1

theorem requestWellFormed_cons_iff {op : Byte} {operands : List Byte} :
    requestWellFormed (op :: operands) = true ↔ opcodeListed op = true ∧ operands.length + 1 = requestLength op := by
  simp [requestWellFormed]

theorem opcodeListed_of_encode {i : Instr} {op : Byte} {operands : List Byte} (h : encode i = op :: operands) :
    opcodeListed op = true :=
  (requestWellFormed_cons_iff.mp (h ▸ requestWellFormed_encode i)).1

/-- An opcode byte gives the number of operand bytes, whatever request it stands for (30_encoding.md R49). -/
theorem operands_length_eq {i : Instr} {op : Byte} {bs operands : List Byte} (h : encode i = op :: bs)
    (hlen : operands.length + 1 = requestLength op) : operands.length = bs.length := by
  have hbs : bs.length + 1 = requestLength op := (requestWellFormed_cons_iff.mp (h ▸ requestWellFormed_encode i)).2
  omega

/-- The opcode map lists exactly the bytes outside the reserved ranges (30_encoding.md R54). -/
theorem opcodeListed_eq_not_reserved (op : Byte) : opcodeListed op = !inReservedRanges op := by
  revert op
  decide

/-- Operand bytes of the number an opcode byte gives complete a request with it. -/
theorem exists_encode_of_wellFormed {op : Byte} {operands : List Byte} (hop : opcodeListed op = true)
    (hlen : operands.length + 1 = requestLength op) : ∃ i, encode i = op :: operands := by
  have hreads := decodeRequest_readsAs op operands
  generalize decodeRequest (op :: operands) = r at hreads
  cases hreads with
  | reserved hres => simp [opcodeListed_eq_not_reserved, hres] at hop
  | plain i henc =>
    obtain rfl := List.length_eq_zero_iff.mp (operands_length_eq henc hlen)
    exact ⟨i, henc⟩
  | imm mk henc =>
    obtain ⟨b, rfl⟩ := List.length_eq_one_iff.mp (operands_length_eq (henc 0) hlen)
    exact ⟨mk b, henc b⟩
  | bytes n mk henc =>
    have hcount : operands.length = n := by simpa using operands_length_eq (henc (Vector.replicate n 0)) hlen
    exact ⟨mk ⟨operands.toArray, hcount⟩, henc _⟩

/-- Settles O3: the checks leave only an opcode byte with the operands of one of its requests, and every request passes
them. -/
theorem wellFormedBytesAreEncodings : Obligations.WellFormedBytesAreEncodings := by
  intro bs
  constructor
  · intro h
    cases bs with
    | nil => cases h
    | cons op operands =>
      obtain ⟨hop, hlen⟩ := requestWellFormed_cons_iff.mp h
      exact exists_encode_of_wellFormed hop hlen
  · rintro ⟨i, rfl⟩
    exact requestWellFormed_encode i

/-! ### Reserved opcode bytes -/

theorem decodeImm_ne_reserved {op : Byte} {mk : Byte → Instr} {operands : List Byte} :
    decodeImm op mk operands ≠ .error (.reserved op) := by
  cases operands <;> simp [decodeImm]

theorem decodeBytes_ne_reserved {n : Nat} {op : Byte} {mk : Vector Byte n → Instr} {operands : List Byte} :
    decodeBytes n op mk operands ≠ .error (.reserved op) := by
  unfold decodeBytes
  split <;> simp

theorem inReservedRanges_of_encode {i : Instr} {op : Byte} {operands : List Byte} (h : encode i = op :: operands) :
    inReservedRanges op = false := by
  simpa [opcodeListed_eq_not_reserved] using opcodeListed_of_encode h

/-- The decoder calls a byte reserved exactly in the ranges of R54. -/
theorem decodeRequest_reserved_iff (op : Byte) (operands : List Byte) :
    decodeRequest (op :: operands) = .error (.reserved op) ↔ inReservedRanges op = true := by
  have hreads := decodeRequest_readsAs op operands
  generalize decodeRequest (op :: operands) = r at hreads
  cases hreads with
  | reserved hres => simp [hres]
  | plain i henc => simp [inReservedRanges_of_encode henc]
  | imm mk henc => simp [inReservedRanges_of_encode (henc 0), decodeImm_ne_reserved]
  | bytes n mk henc =>
    simp [inReservedRanges_of_encode (henc (Vector.replicate n 0)), decodeBytes_ne_reserved]

theorem step_reserved {s : State} {op : Byte} (h : s.fatal = false)
    (hd : decodeRequest s.reqs = .error (.reserved op)) : step s = .next (illegalRequest s) := by
  simp [step, h, hd]

/-- Settles O4: the decoder's reserved bytes are R54's, and the step on one takes it and raises its fault, whose record
update is the frame. -/
theorem reservedOpcodeRaisesIllegalRequest : Obligations.ReservedOpcodeRaisesIllegalRequest := by
  refine ⟨decodeRequest_reserved_iff, fun s op rest hf hreqs hres => ?_⟩
  have hd : decodeRequest s.reqs = .error (.reserved op) := by rw [hreqs, decodeRequest_reserved_iff, hres]
  have htail : s.reqs.tail = rest := by rw [hreqs]; rfl
  rw [step_reserved hf hd, illegalRequest, htail]
  rfl

/-- Settles O5: each word is its request's encoding, so it is read as every encoding is. -/
theorem sampleWordsDecode : Obligations.SampleWordsDecode :=
  ⟨decodeOfEncodeIsTheRequest (.feed 0x3F) [], decodeOfEncodeIsTheRequest (.setBrightness 15) [0x20],
    decodeOfEncodeIsTheRequest (.mergeG #v[0x3C, 0x42, 0x81, 0x81, 0x81, 0x81, 0x42, 0x3C]) [],
    decodeOfEncodeIsTheRequest (.writeRaw #v[1, 2, 3, 4, 5, 6, 7, 8, 9, 10, 11, 12, 13, 14, 15, 16]) []⟩

/-! ### The button vector under the default map -/

/-- The vector's bits are the flags in the order of 30_encoding.md R60. -/
theorem buttonVector_getLsbD (st : ButtonState) :
    (buttonVector st).getLsbD 0 = st.left ∧ (buttonVector st).getLsbD 1 = st.up ∧
    (buttonVector st).getLsbD 2 = st.down ∧ (buttonVector st).getLsbD 3 = st.right ∧
    (buttonVector st).getLsbD 4 = st.a ∧ (buttonVector st).getLsbD 5 = st.b ∧
    (buttonVector st).getLsbD 6 = st.startPlus ∧ (buttonVector st).getLsbD 7 = st.selectMinus := by
  have happend (k : Nat) : (buttonVector st).getLsbD k = BitVec.getLsbD (w := 1 + 1 + 1 + 1 + 1 + 1 + 1 + 1)
      (BitVec.ofBool st.selectMinus ++ BitVec.ofBool st.startPlus ++ BitVec.ofBool st.b ++ BitVec.ofBool st.a ++
        BitVec.ofBool st.right ++ BitVec.ofBool st.down ++ BitVec.ofBool st.up ++ BitVec.ofBool st.left) k := rfl
  simp only [happend, BitVec.getLsbD_append, BitVec.getLsbD_ofBool]
  simp

/-- A mask of one bit tests that bit of its byte, which is 0 while the button is pressed (41_decoder.md R67). -/
theorem flagPressed_singleBit {e : ButtonEntry} {k : Nat} (hk : k < 8) (he : e.mask = 1#8 <<< k) (f : Frame) :
    flagPressed e f = !(frameButtonByte f e.idx).getLsbD k := by
  have hbit : BitVec.twoPow 8 k ≠ 0#8 := by
    intro h
    have hk' := congrArg (BitVec.getLsbD · k) h
    simp [hk] at hk'
  rw [flagPressed, he, ← BitVec.twoPow_eq, BitVec.and_twoPow, BitVec.getLsbD_not]
  cases (frameButtonByte f e.idx).getLsbD k <;> simp [hk, hbit]

/-- Settles O24: each mask of the default map is one bit, and each bit of the vector is the test of its flag's mask. -/
theorem defaultMapVectorBits : Obligations.DefaultMapVectorBits := by
  intro f
  obtain ⟨hleft, hup, hdown, hright, ha, hb, hstart, hselect⟩ :=
    buttonVector_getLsbD (decodeButtons defaultButtonMap f)
  refine ⟨hleft.trans ?_, hup.trans ?_, hdown.trans ?_, hright.trans ?_, ha.trans ?_, hb.trans ?_, hstart.trans ?_,
    hselect.trans ?_⟩ <;> exact flagPressed_singleBit (by decide) rfl f

end Sys2Proof.Machine
end

section
/-! The assembler (30_encoding.md R55): each part of the line printed for a request is read back as what it was printed
for. -/

namespace Sys2Proof.Machine

/-! ### Numbers -/

theorem digitValue_of_isDigit {c : Char} (h : c.isDigit = true) : digitValue c = some (c.toNat - '0'.toNat) := by
  have hrange : '0' ≤ c ∧ c ≤ '9' := Char.isDigit_iff_toNat.mp h
  simp [digitValue, hrange]

theorem parseDigits_of_isDigit {cs : List Char} (h : ∀ c ∈ cs, c.isDigit = true) (acc : Nat) :
    parseDigits 10 acc cs = some (Nat.ofDigitChars 10 cs acc) := by
  induction cs generalizing acc with
  | nil => rfl
  | cons c cs ih =>
    obtain ⟨hc, hcs⟩ := List.forall_mem_cons.mp h
    have hlt : c.toNat - '0'.toNat < 10 := by
      have hrange := Char.isDigit_iff_toNat.mp hc
      have : '9'.toNat = '0'.toNat + 9 := rfl
      omega
    simp only [parseDigits, digitValue_of_isDigit hc, if_pos hlt, ih hcs, Nat.ofDigitChars_cons]

/-- A number of digits only is not read as hex. -/
theorem parseNat_of_isDigit {cs : List Char} (hne : cs ≠ []) (h : ∀ c ∈ cs, c.isDigit = true) :
    parseNat cs = some (Nat.ofDigitChars 10 cs 0) := by
  unfold parseNat
  split
  case h_1 => contradiction
  case h_2 => exact absurd (h 'x' (by simp)) (by decide)
  case h_3 => exact absurd (h 'x' (by simp)) (by decide)
  case h_4 => exact parseDigits_of_isDigit h 0

theorem isDigit_of_mem_printByte {b : Byte} {c : Char} (h : c ∈ printByte b) : c.isDigit = true :=
  Nat.isDigit_of_mem_toDigits (by decide) (by decide) h

theorem printByte_ne_nil (b : Byte) : printByte b ≠ [] := Nat.toDigits_ne_nil

theorem isBlank_of_isDigit {c : Char} (h : c.isDigit = true) : isBlank c = false := by
  rw [isBlank, Bool.or_eq_false_iff, beq_eq_false_iff_ne, beq_eq_false_iff_ne]
  constructor <;> (rintro rfl; revert h; decide)

/-! ### Blanks -/

/-- A text that begins and ends with a character that is no blank. -/
def Trimmed (cs : List Char) : Prop :=
  (∃ c t, cs = c :: t ∧ isBlank c = false) ∧ ∃ t c, cs = t ++ [c] ∧ isBlank c = false

theorem Trimmed.ne_nil {cs : List Char} (h : Trimmed cs) : cs ≠ [] := by
  obtain ⟨⟨c, t, rfl, -⟩, -⟩ := h
  exact List.cons_ne_nil c t

theorem Trimmed.of_forall {cs : List Char} (hne : cs ≠ []) (h : ∀ c ∈ cs, isBlank c = false) : Trimmed cs := by
  constructor
  · exact ⟨cs.head hne, cs.tail, (List.cons_head_tail hne).symm, h _ (List.head_mem hne)⟩
  · exact ⟨cs.dropLast, cs.getLast hne, (List.dropLast_append_getLast hne).symm, h _ (List.getLast_mem hne)⟩

/-- What stands between two trimmed texts is not at an end. -/
theorem Trimmed.append {first last : List Char} (hfirst : Trimmed first) (between : List Char) (hlast : Trimmed last) :
    Trimmed (first ++ between ++ last) := by
  obtain ⟨⟨c, t, rfl, hc⟩, -⟩ := hfirst
  obtain ⟨-, u, d, rfl, hd⟩ := hlast
  exact ⟨⟨c, t ++ between ++ (u ++ [d]), by simp, hc⟩, c :: t ++ between ++ u, d, by simp, hd⟩

theorem trimBlanks_of_trimmed {cs : List Char} (h : Trimmed cs) : trimBlanks cs = cs := by
  obtain ⟨⟨c, t, hcons, hc⟩, u, d, hconcat, hd⟩ := h
  have hfront : cs.dropWhile isBlank = cs := by rw [hcons, List.dropWhile_cons_of_neg (by simp [hc])]
  have hback : cs.rdropWhile isBlank = cs := by rw [hconcat, List.rdropWhile_concat_neg _ _ _ (by simp [hd])]
  calc trimBlanks cs = (cs.dropWhile isBlank).rdropWhile isBlank := rfl
    _ = cs := by rw [hfront, hback]

theorem trimBlanks_space (cs : List Char) : trimBlanks (' ' :: cs) = trimBlanks cs := by
  simp [trimBlanks, isBlank]

theorem trimmed_printByte (b : Byte) : Trimmed (printByte b) :=
  .of_forall (printByte_ne_nil b) fun _ h => isBlank_of_isDigit (isDigit_of_mem_printByte h)

theorem parseByte_printByte (b : Byte) : parseByte (printByte b) = some b := by
  have hval : parseNat (printByte b) = some b.toNat := by
    rw [parseNat_of_isDigit (printByte_ne_nil b) fun _ => isDigit_of_mem_printByte]
    exact congrArg some Nat.ofDigitChars_ten_toDigits
  simp [parseByte, trimBlanks_of_trimmed (trimmed_printByte b), hval, b.isLt]

theorem parseByte_space (cs : List Char) : parseByte (' ' :: cs) = parseByte cs := by
  simp [parseByte, trimBlanks_space]

/-! ### Operands -/

/-- The parts between the commas of printed operands: the first number, and a space before each of the others. -/
def operandTexts (b : Byte) (bs : List Byte) : List (List Char) :=
  printByte b :: bs.map fun x => ' ' :: printByte x

theorem parseBytes_operandTexts (b : Byte) (bs : List Byte) : parseBytes (operandTexts b bs) = some (b :: bs) := by
  have htail : parseBytes (bs.map fun x => ' ' :: printByte x) = some bs := by
    induction bs with
    | nil => rfl
    | cons x xs ih => simp [parseBytes, parseByte_space, parseByte_printByte, ih]
  simp [operandTexts, parseBytes, parseByte_printByte, htail]

theorem splitAtChar_of_not_mem {sep : Char} {w : List Char} (h : sep ∉ w) : splitAtChar sep w = [w] := by
  induction w with
  | nil => rfl
  | cons c cs ih =>
    obtain ⟨hc, hcs⟩ := List.ne_and_not_mem_of_not_mem_cons h
    simp [splitAtChar, ih hcs, hc.symm]

theorem splitAtChar_append_sep {sep : Char} {w : List Char} (h : sep ∉ w) (cs : List Char) :
    splitAtChar sep (w ++ sep :: cs) = w :: splitAtChar sep cs := by
  induction w with
  | nil => simp [splitAtChar]
  | cons c w ih =>
    obtain ⟨hc, hw⟩ := List.ne_and_not_mem_of_not_mem_cons h
    simp [splitAtChar, ih hw, hc.symm]

theorem comma_not_mem_printByte (b : Byte) : ',' ∉ printByte b := fun h =>
  absurd (isDigit_of_mem_printByte h) (by decide)

theorem printOperands_cons_cons (b x : Byte) (xs : List Byte) :
    printOperands (b :: x :: xs) = printByte b ++ [',', ' '] ++ printOperands (x :: xs) := rfl

theorem splitAtChar_printOperands (b : Byte) (bs : List Byte) :
    splitAtChar ',' (printOperands (b :: bs)) = operandTexts b bs := by
  induction bs generalizing b with
  | nil => exact splitAtChar_of_not_mem (comma_not_mem_printByte b)
  | cons x xs ih =>
    rw [printOperands_cons_cons, List.append_assoc]
    refine (splitAtChar_append_sep (comma_not_mem_printByte b) _).trans ?_
    simp [splitAtChar, ih, operandTexts]

theorem mem_printOperands {bs : List Byte} {c : Char} (h : c ∈ printOperands bs) :
    c.isDigit = true ∨ c ∈ [',', ' '] := by
  induction bs with
  | nil => cases h
  | cons b bs ih =>
    cases bs with
    | nil => exact .inl (isDigit_of_mem_printByte h)
    | cons x xs =>
      rw [printOperands_cons_cons, List.mem_append, List.mem_append] at h
      obtain (hbyte | hsep) | hrest := h
      · exact .inl (isDigit_of_mem_printByte hbyte)
      · exact .inr hsep
      · exact ih hrest

theorem trimmed_printOperands (b : Byte) (bs : List Byte) : Trimmed (printOperands (b :: bs)) := by
  induction bs generalizing b with
  | nil => exact trimmed_printByte b
  | cons x xs ih =>
    rw [printOperands_cons_cons]
    exact (trimmed_printByte b).append _ (ih x)

/-- What is printed behind the mnemonic. -/
def argumentText : List Byte → List Char
  | [] => []
  | b :: bs => ' ' :: printOperands (b :: bs)

theorem parseOperands_argumentText (bs : List Byte) : parseOperands (argumentText bs) = some bs := by
  cases bs with
  | nil => rfl
  | cons b bs =>
    have htrim := trimmed_printOperands b bs
    rw [argumentText, parseOperands, trimBlanks_space, trimBlanks_of_trimmed htrim]
    split
    case h_1 hnil => exact absurd hnil htrim.ne_nil
    case h_2 => rw [splitAtChar_printOperands, parseBytes_operandTexts]

/-! ### Mnemonics -/

/-- No two rows of the opcode map share a mnemonic, so each is found by its own (30_encoding.md R52). -/
theorem opcodeMap_find?_mnemonic :
    ∀ row ∈ opcodeMap, opcodeMap.find? (fun r => r.mnemonic.toList == row.mnemonic.toList) = some row := by
  decide

/-- The row of a request's mnemonic gives its opcode byte (30_encoding.md R52). -/
theorem exists_opcodeRow_of_instr (i : Instr) :
    ∃ row ∈ opcodeMap, row.mnemonic = mnemonic i ∧ row.value :: operandBytes i = encode i := by
  cases i <;> simp [opcodeMap, mnemonic, operandBytes, encode]

theorem makeRequest_mnemonic (i : Instr) : makeRequest (mnemonic i).toList (operandBytes i) = some i := by
  obtain ⟨row, hrow, hname, henc⟩ := exists_opcodeRow_of_instr i
  have hfind := opcodeMap_find?_mnemonic row hrow
  have hdecode : decodeRequest (encode i) = .ok (i, []) := by simpa using decodeOfEncodeIsTheRequest i []
  rw [hname] at hfind
  simp only [makeRequest, hfind, henc, hdecode]

theorem mnemonic_chars (i : Instr) : ∀ c ∈ (mnemonic i).toList, isBlank c = false ∧ c ≠ ';' := by
  cases i <;> simp [mnemonic, isBlank]

theorem mnemonic_ne_nil (i : Instr) : (mnemonic i).toList ≠ [] := by
  cases i <;> simp [mnemonic]

/-! ### Lines -/

theorem printInstr_eq (i : Instr) : printInstr i = (mnemonic i).toList ++ argumentText (operandBytes i) := by
  unfold printInstr
  cases operandBytes i <;> simp [argumentText]

theorem trimmed_printInstr (i : Instr) : Trimmed (printInstr i) := by
  have hname : Trimmed (mnemonic i).toList := .of_forall (mnemonic_ne_nil i) fun c hc => (mnemonic_chars i c hc).1
  rw [printInstr_eq]
  cases operandBytes i with
  | nil => simpa [argumentText] using hname
  | cons b bs => simpa [argumentText] using hname.append [' '] (trimmed_printOperands b bs)

theorem semicolon_not_mem_printInstr (i : Instr) : ';' ∉ printInstr i := by
  rw [printInstr_eq, List.mem_append]
  rintro (hname | hargs)
  · exact (mnemonic_chars i _ hname).2 rfl
  · cases hbs : operandBytes i with
    | nil => simp [hbs, argumentText] at hargs
    | cons b bs =>
      rw [hbs, argumentText, List.mem_cons] at hargs
      obtain hspace | hops := hargs
      · exact absurd hspace (by decide)
      · exact absurd (mem_printOperands hops) (by decide)

/-- The first blank of a printed line ends the mnemonic. -/
theorem break_printInstr (i : Instr) :
    (printInstr i).takeWhile (fun c => !isBlank c) = (mnemonic i).toList ∧
    (printInstr i).dropWhile (fun c => !isBlank c) = argumentText (operandBytes i) := by
  have hname : ∀ c ∈ (mnemonic i).toList, (!isBlank c) = true := fun c hc => by simp [mnemonic_chars i c hc]
  rw [printInstr_eq, List.takeWhile_append_of_pos hname, List.dropWhile_append_of_pos hname]
  cases operandBytes i <;> simp [argumentText, isBlank]

theorem parseStatement_printInstr (i : Instr) : parseStatement (printInstr i) = some [i] := by
  have htrim := trimmed_printInstr i
  obtain ⟨hname, hargs⟩ := break_printInstr i
  rw [parseStatement, trimBlanks_of_trimmed htrim]
  split
  case h_1 hnil => exact absurd hnil htrim.ne_nil
  case h_2 => simp [hname, hargs, parseOperands_argumentText, makeRequest_mnemonic]

/-- Settles O6: no part of a printed line begins a comment, so the line is a statement of its mnemonic and its operands. -/
theorem assemblerReadsPrintedRequest : Obligations.AssemblerReadsPrintedRequest := by
  intro i
  have hcomment : (printInstr i).takeWhile (fun c => c != ';') = printInstr i :=
    List.takeWhile_eq_self_iff.mpr fun c hc => bne_iff_ne.mpr fun h => semicolon_not_mem_printInstr i (h ▸ hc)
  rw [parseLine, hcomment, parseStatement_printInstr]

end Sys2Proof.Machine
end

section
/-! The Packet Framer (40_framer.md): what each of its requests answers, and the frames a sequence of transport reads
gives. -/

namespace Sys2Proof.Machine

/-! ### The three requests -/

/-- A request legal whether or not a render is open always acts, on empty outputs (60_exceptions.md R107). -/
theorem exec_either {i : Instr} {s : State} (hneed : requestNeed i = .either) (h : s.fatal = false) :
    exec i s = .next (requestAction i (clearOutputs s)) := by
  rw [exec_eq_perform, hneed, perform_action _ h (sequencingFault_either _)]

theorem exec_feed {s : State} (b : Byte) (h : s.fatal = false) :
    exec (.feed b) s = .next (feedByte b (clearOutputs s)) :=
  exec_either rfl h

theorem exec_feedEmpty {s : State} (h : s.fatal = false) : exec .feedEmpty s = .next (clearOutputs s) :=
  exec_either rfl h

/-- Settles O15: the new FB is the old one with the byte set at WIDX, and the two cases of a FEED are those of WIDX. -/
theorem feedStoresTheByteAndCompletesAtFive : Obligations.FeedStoresTheByteAndCompletesAtFive := by
  refine fun s b => ⟨rfl, fun hf => ⟨s.fb.set s.widx.val b, ?_, fun j hj => ?_, ?_⟩⟩
  · exact Vector.getElem_set_self _
  · exact Vector.getElem_set_ne _ _ fun h => hj (Fin.ext h.symm)
  · rw [exec_feed b hf]
    obtain ⟨h5, hfeed⟩ | ⟨h5, hfeed⟩ := feedByte_cases b (clearOutputs s) <;> rw [clearOutputs_widx] at h5
    · simp only [h5, hfeed]
      exact ⟨fun _ => rfl, fun h => absurd rfl h⟩
    · have hsucc : (s.widx + 1).val = s.widx.val + 1 := by omega
      exact ⟨fun h => absurd h h5, fun _ => ⟨s.widx + 1, hsucc, congrArg _ hfeed⟩⟩

/-- Settles O16: FEED_EMPTY passes its sequencing check and does nothing to the state with empty outputs. -/
theorem feedEmptyChangesNothing : Obligations.FeedEmptyChangesNothing :=
  ⟨rfl, fun _ h => exec_feedEmpty h⟩

/-- Settles O17: FEED_ERROR passes its sequencing check and raises its one fault. -/
theorem feedErrorRaisesRxIoError : Obligations.FeedErrorRaisesRxIoError :=
  ⟨rfl, fun _ h => exec_either rfl h⟩

/-! ### Runs of requests -/

theorem runRequests_cons {i : Instr} {s t : State} (h : exec i s = .next t) (is : List Instr) :
    runRequests (i :: is) s = runRequests is t := by
  simp only [runRequests, h]

theorem framesOf_cons {i : Instr} {s t : State} (h : exec i s = .next t) (is : List Instr) :
    framesOf (i :: is) s = t.frameOut.toList ++ framesOf is t := by
  simp only [framesOf, h]

@[simp] theorem feedByte_fatal (b : Byte) (s : State) : (feedByte b s).fatal = s.fatal := by
  obtain ⟨_, _, _, _, h⟩ := feedByte_frame b s
  rw [h]

/-- Each FEED of a run moves WIDX by one modulo six, and each FEED_EMPTY keeps it (40_framer.md R64). -/
theorem runRequests_framerRequests_widx (reads : List (Option Byte)) {s : State} (h : s.fatal = false) :
    ∃ t, runRequests (framerRequests reads) s = .next t ∧
      t.widx.val = (s.widx.val + (reads.filterMap id).length) % 6 := by
  induction reads generalizing s with
  | nil => exact ⟨s, rfl, (Nat.mod_eq_of_lt s.widx.isLt).symm⟩
  | cons r reads ih =>
    cases r with
    | none =>
      obtain ⟨t, hrun, hwidx⟩ := ih (s := clearOutputs s) h
      exact ⟨t, (runRequests_cons (exec_feedEmpty h) _).trans hrun, hwidx⟩
    | some b =>
      obtain ⟨t, hrun, hwidx⟩ := ih (s := feedByte b (clearOutputs s)) (by simpa using h)
      refine ⟨t, (runRequests_cons (exec_feed b h) _).trans hrun, ?_⟩
      have hcount : ((some b :: reads).filterMap id).length = (reads.filterMap id).length + 1 := rfl
      rw [feedByte_widx, clearOutputs_widx] at hwidx
      omega

/-! ### The frames of a byte sequence -/

/-- The whole frames of a byte sequence: frame `j` is bytes `6j` to `6j + 5` (40_framer.md R64). -/
def framesIn (bytes : List Byte) : List (List Byte) :=
  (List.range (bytes.length / 6)).map fun j => (bytes.drop (6 * j)).take 6

theorem framesIn_of_length_lt {bytes : List Byte} (h : bytes.length < 6) : framesIn bytes = [] := by
  simp [framesIn, Nat.div_eq_of_lt h]

theorem framesIn_append {frame : List Byte} (h : frame.length = 6) (bytes : List Byte) :
    framesIn (frame ++ bytes) = frame :: framesIn bytes := by
  have hdrop (j : Nat) : (frame ++ bytes).drop (6 * (j + 1)) = bytes.drop (6 * j) := by
    rw [List.drop_append, List.drop_eq_nil_of_le (by omega), h]
    rfl
  simp [framesIn, List.range_succ_eq_map, hdrop, h]

/-- The bytes of the frame begun and not yet completed (10_state.md R17, R18). -/
def partialFrame (s : State) : List Byte :=
  s.fb.toList.take s.widx.val

theorem partialFrame_length_lt (s : State) : (partialFrame s).length < 6 := by
  simp [partialFrame]

/-- The bytes up to WIDX after a FEED's write are the partial frame and the byte. -/
theorem take_set_fb (s : State) (b : Byte) :
    (s.fb.set s.widx.val b).toList.take (s.widx.val + 1) = partialFrame s ++ [b] := by
  rw [Vector.toList_set, List.take_set, List.take_add_one]
  simp [partialFrame]

/-- A FEED adds its byte to the partial frame, and outputs the frame as soon as that has six bytes (40_framer.md R61). -/
theorem feedByte_partialFrame (b : Byte) (s : State) :
    (∃ f : Frame, (feedByte b s).frameOut = some f ∧ f.toList = partialFrame s ++ [b] ∧
      partialFrame (feedByte b s) = []) ∨
    ((feedByte b s).frameOut = s.frameOut ∧ partialFrame (feedByte b s) = partialFrame s ++ [b]) := by
  have htake := take_set_fb s b
  obtain ⟨h5, hfeed⟩ | ⟨h5, hfeed⟩ := feedByte_cases b s <;> rw [hfeed]
  · simp only [h5] at htake
    exact .inl ⟨s.fb.set 5 b, rfl, by rw [← htake]; simp, rfl⟩
  · have hsucc : (s.widx + 1).val = s.widx.val + 1 := by omega
    exact .inr ⟨rfl, by rw [← htake, ← hsucc]; rfl⟩

/-- The frames a run outputs are those of its bytes behind the partial frame it began with (40_framer.md R64). -/
theorem framesOf_framerRequests (reads : List (Option Byte)) {s : State} (h : s.fatal = false) :
    (framesOf (framerRequests reads) s).map (fun f => f.toList) =
      framesIn (partialFrame s ++ reads.filterMap id) := by
  induction reads generalizing s with
  | nil => simp [framerRequests, framesOf, framesIn_of_length_lt (partialFrame_length_lt s)]
  | cons r reads ih =>
    cases r with
    | none => exact (congrArg _ (framesOf_cons (exec_feedEmpty h) _)).trans (ih (s := clearOutputs s) h)
    | some b =>
      have hrest := ih (s := feedByte b (clearOutputs s)) (by simpa using h)
      have hcons := framesOf_cons (exec_feed b h) (framerRequests reads)
      have hpartial : partialFrame (clearOutputs s) = partialFrame s := rfl
      refine (congrArg _ hcons).trans ?_
      obtain ⟨f, hout, hf, hnil⟩ | ⟨hout, hmore⟩ := feedByte_partialFrame b (clearOutputs s)
      · have hsix : (partialFrame s ++ [b]).length = 6 := by rw [← hpartial, ← hf, Vector.length_toList]
        have hframe := framesIn_append hsix (reads.filterMap id)
        simpa [hout, hf, hrest, hnil, hpartial] using hframe.symm
      · simp [hout, hrest, hmore, hpartial]

/-- Settles O18: from WIDX = 0 there is no partial frame, so the run's frames are those of its bytes alone. -/
theorem framerGroupsBytesBySix : Obligations.FramerGroupsBytesBySix := by
  intro s reads hf h0
  obtain ⟨t, hrun, hwidx⟩ := runRequests_framerRequests_widx reads hf
  have hempty : partialFrame s = [] := by simp [partialFrame, h0]
  refine ⟨⟨t, hrun, by simpa [h0] using hwidx⟩, ?_⟩
  rw [framesOf_framerRequests reads hf, hempty]
  rfl

end Sys2Proof.Machine
end

section
/-! The Button Decoder (41_decoder.md): what decides a flag under any map, and that under the default map every combination
of flags has a frame. -/

namespace Sys2Proof.Machine

/-! ### Every map -/

/-- A flag's entry gives it the one frame byte that decides it (41_decoder.md R67, R69). -/
theorem flagPressed_congr {e : ButtonEntry} {f g : Frame} (h : frameButtonByte f e.idx = frameButtonByte g e.idx) :
    flagPressed e f = flagPressed e g := by
  rw [flagPressed, flagPressed, h]

/-- Settles O21: a flag of a decoded frame is its entry's test, which compares with 0x00. -/
theorem decodeComputesEachFlag : Obligations.DecodeComputesEachFlag := by
  intro m f flag
  rw [buttonPressed_decodeButtons]
  exact bne_iff_ne

/-- Settles O22: whichever of the two bytes a flag's entry names, the frames agree on it. -/
theorem decodeReadsOnlyTheButtonBytes : Obligations.DecodeReadsOnlyTheButtonBytes := by
  intro m f g h4 h5
  have hbyte (idx : ButtonByte) : frameButtonByte f idx = frameButtonByte g idx := by
    cases idx with
    | byte4 => exact h4
    | byte5 => exact h5
  simp only [decodeButtons, flagPressed_congr (hbyte _)]

/-! ### A mask of one bit -/

theorem getLsbD_singleBit (j k : Fin 8) : (1#8 <<< j.val).getLsbD k.val = decide (j = k) := by
  simp [← BitVec.twoPow_eq, Fin.ext_iff, eq_comm]

theorem getLsbD_ones (k : Fin 8) : (0xFF : Byte).getLsbD k.val = true := by
  revert k
  decide

/-- Settles O25: the flag is its bit's complement (a), and each other clause gives the byte whose bit that is. -/
theorem singleBitMaskProperties : Obligations.SingleBitMaskProperties := by
  intro m flag k f hmask byte pressed
  have hpressed : pressed = !byte.getLsbD k.val :=
    (buttonPressed_decodeButtons m f flag).trans (flagPressed_singleBit k.isLt hmask f)
  rw [hpressed]
  refine ⟨by simp, fun hb => ?_, fun hb => ?_, fun j hb => ?_, fun j hb => ?_⟩ <;> rw [hb]
  · rw [getLsbD_ones, Bool.not_true]
  · simp
  · rw [BitVec.getLsbD_xor, getLsbD_ones, getLsbD_singleBit]
    simp
  · rw [getLsbD_singleBit]
    simp

/-! ### The default map -/

/-- The flags of a frame under the default map, each the complement of its bit (41_decoder.md R72). -/
theorem decodeButtons_defaultButtonMap (f : Frame) : decodeButtons defaultButtonMap f =
    { left := !f[5].getLsbD 1, up := !f[5].getLsbD 0, down := !f[4].getLsbD 6, right := !f[4].getLsbD 7,
      a := !f[5].getLsbD 4, b := !f[5].getLsbD 6, startPlus := !f[4].getLsbD 2, selectMinus := !f[4].getLsbD 4 } := by
  rw [decodeButtons]
  congr <;> exact flagPressed_singleBit (by decide) rfl f

/-- The frame a controller sends with these flags pressed: under the default map the bit of each is 0, and every other bit
of the two button bytes is 1 (41_decoder.md R72). -/
def frameOfButtons (st : ButtonState) : Frame :=
  #v[0, 0, 0, 0,
    .ofFnLE ![true, true, !st.startPlus, true, !st.selectMinus, true, !st.down, !st.right],
    .ofFnLE ![!st.up, !st.left, true, true, !st.a, true, !st.b, true]]

/-- Settles O23: no two flags of the default map have the same bit, so a frame can set each as the combination asks. -/
theorem defaultMapFlagsAreIndependent : Obligations.DefaultMapFlagsAreIndependent := by
  refine fun st => ⟨frameOfButtons st, ?_⟩
  simp [decodeButtons_defaultButtonMap, frameOfButtons]

end Sys2Proof.Machine
end

section
/-! Device control (42_device_control.md): what an emitting request answers, and the command byte that each level and each
rate is sent as. -/

namespace Sys2Proof.Machine

/-! ### Emitting requests -/

/-- A request that needs no render open raises SEQ_OPEN while one is (60_exceptions.md R107). -/
theorem raises_seqOpen {i : Instr} {s : State} (hneed : requestNeed i = .closed) (hf : s.fatal = false)
    (hr : s.ropen = true) : Raises i s 0x04 := by
  rw [Raises, exec_eq_perform, hneed, perform_fault _ hf (hr ▸ sequencingFault_closed_true)]
  rfl

theorem actuatorDrawn_clearOutputs (s : State) : actuatorDrawn (clearOutputs s) = clearOutputs (actuatorDrawn s) := by
  cases htape : s.actuatorTape <;> simp [actuatorDrawn, clearOutputs, htape]

theorem sequencingFault_closed_eq_none_iff {ropen : Bool} : sequencingFault .closed ropen = none ↔ ropen = false := by
  cases ropen <;> simp

/-- The emitting requests but RENDER_COMMIT need that no render is open (60_exceptions.md R107). -/
theorem requestNeed_of_emits {i : Instr} (he : emits i = true) (hi : i ≠ .renderCommit) : requestNeed i = .closed := by
  cases i with
  | nop | feed | feedEmpty | feedError | renderBegin | mergeOff | mergeG | mergeR | mergeY => cases he
  | renderCommit => contradiction
  | oscOn | setBrightness | setBlink | clear | writeRaw => rfl

/-- ROPEN is 0 after a successful transfer: RENDER_COMMIT clears it, and every other emitting request needs it clear. -/
theorem afterTransfer_closed {i : Instr} {s : State} (he : emits i = true)
    (hq : sequencingFault (requestNeed i) s.ropen = none) : afterTransfer i s = { s with ropen := false } := by
  unfold afterTransfer
  split
  case isTrue => rfl
  case isFalse hi =>
    rw [requestNeed_of_emits he hi, sequencingFault_closed_eq_none_iff] at hq
    rw [← hq]

/-- An emitting request whose check passes makes its one transfer (60_exceptions.md R106, the row of TX_IO_ERROR). -/
theorem transmits_requestTransfer {i : Instr} {s : State} (he : emits i = true) (hf : s.fatal = false)
    (hq : sequencingFault (requestNeed i) s.ropen = none) : Transmits i s (requestTransfer i s) false := by
  have hseq : requestTransfer i (clearOutputs s) = requestTransfer i s := rfl
  rw [Transmits, exec_eq_perform, perform_action _ hf hq]
  obtain ⟨ha, h⟩ | ⟨ha, h⟩ := emitting_cases he (clearOutputs s) <;>
    rw [actuatorAnswer_clearOutputs] at ha <;> rw [h, hseq, actuatorDrawn_clearOutputs]
  · rw [afterTransfer_closed he (by simpa using hq)]
    exact ⟨fun _ => rfl, by simp [ha]⟩
  · exact ⟨by simp [ha], fun _ => rfl⟩

/-- The record that an emitting request adds to TXLOG is its transfer's (10_state.md R24). -/
theorem exec_new_record {i : Instr} {s t : State} (he : emits i = true) (h : exec i s = .next t)
    (hnew : t.txlog ≠ s.txlog) : ∃ ok, t.txlog = s.txlog ++ [⟨requestTransfer i s, ok⟩] := by
  obtain ⟨-, ⟨c, -, rfl⟩ | ⟨-, rfl⟩⟩ := exec_cases h
  · exact absurd rfl hnew
  · exact ⟨_, requestAction_txlog_of_emits he (clearOutputs s)⟩

/-! ### The level and the rate sent -/

/-- The level sent is the smaller of the level and 15 (42_device_control.md R75). -/
theorem reduceLevel_eq_min (level : Byte) : reduceLevel level = BitVec.ofNat 8 (min level.toNat 15) := by
  unfold reduceLevel Config.brightMax
  split
  case isTrue h => rw [min_eq_left h, BitVec.ofNat_toNat, BitVec.setWidth_eq]
  case isFalse h => rw [min_eq_right (by omega)]; rfl

@[simp] theorem reduceLevel_reduceLevel (level : Byte) : reduceLevel (reduceLevel level) = reduceLevel level := by
  rw [reduceLevel_eq_min (reduceLevel level), reduceLevel_eq_min level, BitVec.toNat_ofNat]
  congr 1
  omega

/-- The rate sent is the rate up to 3, and 0 above (42_device_control.md R76; 90_conflicts.md C1). -/
theorem reduceRate_eq_ite (rate : Byte) :
    reduceRate rate = BitVec.ofNat 8 (if rate.toNat ≤ 3 then rate.toNat else 0) := by
  unfold reduceRate Config.blinkMax
  split
  case isTrue => rw [BitVec.ofNat_toNat, BitVec.setWidth_eq]
  case isFalse => rfl

/-- A level 0 to 15 in the low half of the command byte (30_encoding.md R57). -/
theorem brightnessByte_ofNat {n : Nat} (h : n ≤ 15) :
    brightnessByte (BitVec.ofNat 4 n) = BitVec.ofNat 8 (0xE0 ||| n) ∧
      Config.opBright ||| BitVec.ofNat 8 n = BitVec.ofNat 8 (0xE0 ||| n) := by
  revert n; decide

/-- A rate 0 to 3 above bit 0 of the command byte (30_encoding.md R57). -/
theorem blinkByte_ofNat {r : Nat} (h : r ≤ 3) :
    blinkByte (BitVec.ofNat 2 r) = BitVec.ofNat 8 (0x80 ||| 0x01 ||| (r <<< 1)) ∧
      Config.opBlink ||| Config.dispOnBit ||| (BitVec.ofNat 8 r <<< 1) = BitVec.ofNat 8 (0x80 ||| 0x01 ||| (r <<< 1)) := by
  revert r; decide

theorem brightnessByte_range (l : BitVec 4) : 0xE0 ≤ (brightnessByte l).toNat ∧ (brightnessByte l).toNat ≤ 0xEF := by
  revert l; decide

theorem blinkByte_mem (r : BitVec 2) :
    blinkByte r ∈ ([0x81, 0x83, 0x85, 0x87] : List Byte) ∧ (blinkByte r).getLsbD 0 = true := by
  revert r; decide

/-! ### The requests -/

/-- SET_BRIGHTNESS depends on its operand through the level sent alone. -/
theorem exec_setBrightness_congr {a b : Byte} (h : reduceLevel a = reduceLevel b) (s : State) :
    exec (.setBrightness a) s = exec (.setBrightness b) s := by
  simp only [exec, execSetBrightness, brightnessTransfer, h]

/-- SET_BLINK depends on its operand through the rate sent alone. -/
theorem exec_setBlink_congr {a b : Byte} (h : reduceRate a = reduceRate b) (s : State) :
    exec (.setBlink a) s = exec (.setBlink b) s := by
  simp only [exec, execSetBlink, blinkTransfer, h]

/-- Settles O29: the requests depend on the level and the rate sent, and a record they add holds the command byte of a
four-bit level or a two-bit rate. -/
theorem deviceControlReductions : Obligations.DeviceControlReductions := by
  refine fun s level rate => ⟨?_, fun t h hnew => ?_, fun hrate => ?_, fun t h hnew => ?_⟩
  · rw [← reduceLevel_eq_min]
    exact exec_setBrightness_congr (reduceLevel_reduceLevel level).symm s
  · obtain ⟨l, hl⟩ := brightnessTransfer_eq level
    obtain ⟨ok, hlog⟩ := exec_new_record rfl h hnew
    rw [requestTransfer, hl] at hlog
    exact ⟨_, ok, hlog, brightnessByte_range l⟩
  · have hzero : reduceRate rate = 0 := by rw [reduceRate_eq_ite, if_neg (by omega)]; rfl
    exact exec_setBlink_congr hzero s
  · obtain ⟨r, hr⟩ := blinkTransfer_eq rate
    obtain ⟨ok, hlog⟩ := exec_new_record rfl h hnew
    rw [requestTransfer, hr] at hlog
    exact ⟨_, ok, hlog, blinkByte_mem r⟩

/-- Settles O26: OSC_ON is an emitting request that needs no render open, and its byte sets the oscillator field. -/
theorem oscOnSendsOscillatorByte : Obligations.OscOnSendsOscillatorByte := by
  refine ⟨rfl, fun s hf => ⟨raises_seqOpen rfl hf, fun hr => ?_, ?_⟩⟩
  · exact transmits_requestTransfer rfl hf (sequencingFault_closed_eq_none_iff.mpr hr)
  · rw [actuatorFields_append_one, applyTransfer_oscOn]
    rfl

/-- Settles O27: the level sent is at most 15, so the command byte is the brightness byte of its four bits. -/
theorem setBrightnessSendsClampedLevel : Obligations.SetBrightnessSendsClampedLevel := by
  refine fun level s => ⟨rfl, fun hf => ?_⟩
  obtain ⟨hbyte, hor⟩ := brightnessByte_ofNat (min_le_right level.toNat 15)
  refine ⟨raises_seqOpen rfl hf, fun hr => ?_, ?_⟩
  · rw [← hor, ← reduceLevel_eq_min]
    exact transmits_requestTransfer rfl hf (sequencingFault_closed_eq_none_iff.mpr hr)
  · rw [← hbyte, actuatorFields_append_one, applyTransfer_brightnessByte]
    rfl

/-- Settles O28: the rate sent is at most 3, so the command byte is the blink byte of its two bits. -/
theorem setBlinkSendsFailSafeRate : Obligations.SetBlinkSendsFailSafeRate := by
  refine fun rate s => ⟨rfl, fun hf => ?_⟩
  have hrate : (if rate.toNat ≤ 3 then rate.toNat else 0) ≤ 3 := by split <;> omega
  obtain ⟨hbyte, hor⟩ := blinkByte_ofNat hrate
  refine ⟨raises_seqOpen rfl hf, fun hr => ?_, ?_⟩
  · rw [← hor, ← reduceRate_eq_ite]
    exact transmits_requestTransfer rfl hf (sequencingFault_closed_eq_none_iff.mpr hr)
  · rw [← hbyte, actuatorFields_append_one, applyTransfer_blinkByte]
    exact ⟨rfl, rfl⟩

end Sys2Proof.Machine
end

section
/-! The display buffer (43_display_buffer.md): the algebra of merging, what each request of a render answers, and the one
transfer that a whole render makes. -/

namespace Sys2Proof.Machine

/-! ### Merging -/

/-- What a merge ORs into offset `k`: the layer's row byte where the colour selects the plane, else nothing
(43_display_buffer.md R78). -/
def layerByte (l : Layer) (c : Color) (k : Fin 17) : Byte :=
  if selectsOffset c k then l[offsetRow k] else 0x00

/-- A merge is an OR at every offset (43_display_buffer.md R78). -/
theorem mergeLayer_getElem_or (wb : Buffer) (l : Layer) (c : Color) (k : Fin 17) :
    (mergeLayer wb l c)[k] = wb[k] ||| layerByte l c k := by
  rw [Fin.getElem_fin, mergeLayer_getElem, layerByte]
  cases selectsOffset c k <;> simp

/-- Two buffers with the same byte at every offset are one. -/
theorem buffer_ext {a b : Buffer} (h : ∀ k : Fin 17, a[k] = b[k]) : a = b :=
  Vector.ext fun k hk => h ⟨k, hk⟩

/-- No merge clears a bit (43_display_buffer.md R89 (a)). -/
theorem getLsbD_mergeLayer_of_getLsbD {wb : Buffer} {k : Fin 17} {n : Nat} (l : Layer) (c : Color)
    (h : wb[k].getLsbD n = true) : (mergeLayer wb l c)[k].getLsbD n = true := by
  rw [mergeLayer_getElem_or, BitVec.getLsbD_or, h, Bool.true_or]

/-- Merging the same layer again in the same colour adds nothing (43_display_buffer.md R89 (b)). -/
theorem mergeLayer_mergeLayer_self (wb : Buffer) (l : Layer) (c : Color) :
    mergeLayer (mergeLayer wb l c) l c = mergeLayer wb l c := by
  refine buffer_ext fun k => ?_
  rw [mergeLayer_getElem_or, mergeLayer_getElem_or, BitVec.or_assoc, BitVec.or_self]

/-- The order of two merges does not matter (43_display_buffer.md R89 (c)). -/
theorem mergeLayer_right_comm (wb : Buffer) (l1 l2 : Layer) (c1 c2 : Color) :
    mergeLayer (mergeLayer wb l1 c1) l2 c2 = mergeLayer (mergeLayer wb l2 c2) l1 c1 := by
  refine buffer_ext fun k => ?_
  simp only [mergeLayer_getElem_or]
  rw [BitVec.or_assoc, BitVec.or_comm (layerByte l1 c1 k), BitVec.or_assoc]

/-- In one colour the OR of two layers adds to each offset what the two add. -/
theorem layerByte_union (l1 l2 : Layer) (c : Color) (k : Fin 17) :
    layerByte (Vector.ofFn fun r : Fin 8 => l1[r] ||| l2[r]) c k = layerByte l1 c k ||| layerByte l2 c k := by
  unfold layerByte
  split
  case isTrue => simp
  case isFalse => rfl

/-- Merging two layers in one colour is merging their OR (43_display_buffer.md R89 (d)). -/
theorem mergeLayer_union (wb : Buffer) (l1 l2 : Layer) (c : Color) :
    mergeLayer (mergeLayer wb l1 c) l2 c = mergeLayer wb (Vector.ofFn fun r : Fin 8 => l1[r] ||| l2[r]) c := by
  refine buffer_ext fun k => ?_
  simp only [mergeLayer_getElem_or, layerByte_union, BitVec.or_assoc]

/-- Yellow selects the planes of Green and of Red (30_encoding.md R51). -/
theorem selectsOffset_yellow (k : Fin 17) :
    selectsOffset .yellow k = (selectsOffset .green k || selectsOffset .red k) := by
  revert k; decide

theorem layerByte_yellow (l : Layer) (k : Fin 17) :
    layerByte l .yellow k = layerByte l .green k ||| layerByte l .red k := by
  unfold layerByte
  rw [selectsOffset_yellow]
  cases selectsOffset .green k <;> cases selectsOffset .red k <;> simp

/-- A merge in Yellow is one in Green and then one in Red (43_display_buffer.md R89 (f)). -/
theorem mergeLayer_yellow (wb : Buffer) (l : Layer) :
    mergeLayer wb l .yellow = mergeLayer (mergeLayer wb l .green) l .red := by
  refine buffer_ext fun k => ?_
  simp only [mergeLayer_getElem_or, layerByte_yellow, BitVec.or_assoc]

/-- MERGE.Y's action is MERGE.G's and then MERGE.R's (43_display_buffer.md R84). -/
theorem mergeInto_yellow (l : Layer) (s : State) : mergeInto l .yellow s = mergeInto l .red (mergeInto l .green s) := by
  simp only [mergeInto, mergeLayer_yellow]

/-- Settles O30: no colour selects offset 0, and the two bits of the colour's code select the planes of each row. -/
theorem mergeLayerOrsSelectedPlanes : Obligations.MergeLayerOrsSelectedPlanes :=
  fun wb l c => ⟨mergeLayer_address_byte wb l c,
    fun r => ⟨mergeLayer_greenOffset wb l c r, mergeLayer_redOffset wb l c r⟩⟩

/-- Settles O40: a merge ORs into each offset a byte of its layer and colour alone, so each property is one of OR. -/
theorem compositingProperties : Obligations.CompositingProperties :=
  fun wb l l1 l2 c c1 c2 => ⟨fun _ _ => getLsbD_mergeLayer_of_getLsbD l c, mergeLayer_mergeLayer_self wb l c,
    mergeLayer_right_comm wb l1 l2 c1 c2, mergeLayer_union wb l1 l2 c, mergeLayer_off wb l, mergeLayer_yellow wb l⟩

/-! ### The requests of a render -/

/-- A request that needs a render open raises SEQ_NOT_OPEN while none is (60_exceptions.md R107). -/
theorem raises_seqNotOpen {i : Instr} {s : State} (hneed : requestNeed i = .opened) (hf : s.fatal = false)
    (hr : s.ropen = false) : Raises i s 0x03 := by
  rw [Raises, exec_eq_perform, hneed, perform_fault _ hf (hr ▸ sequencingFault_opened_false)]
  rfl

@[simp] theorem requestNeed_merge (c : Color) (l : Layer) : requestNeed (Instr.merge c l) = .opened := by
  cases c <;> rfl

@[simp] theorem requestAction_merge (c : Color) (l : Layer) (s : State) :
    requestAction (Instr.merge c l) s = mergeInto l c s := by
  cases c <;> rfl

/-- A merge in an open render merges into WB, on empty outputs (43_display_buffer.md R80). -/
theorem exec_merge {s : State} (c : Color) (l : Layer) (hf : s.fatal = false) (hr : s.ropen = true) :
    exec (Instr.merge c l) s = .next (mergeInto l c (clearOutputs s)) := by
  rw [exec_eq_perform, requestNeed_merge, perform_action _ hf (sequencingFault_opened_eq_none_iff.mpr hr),
    requestAction_merge]

theorem exec_renderBegin {s : State} (hf : s.fatal = false) (hr : s.ropen = false) :
    exec .renderBegin s = .next (openRender (clearOutputs s)) :=
  (exec_eq_perform _ s).trans (perform_action _ hf (sequencingFault_closed_eq_none_iff.mpr hr))

/-- Settles O31: the check passes only with no render open, and the action opens one on a zeroed buffer. -/
theorem renderBeginZeroesTheBuffer : Obligations.RenderBeginZeroesTheBuffer := by
  refine ⟨rfl, fun s hf => ⟨raises_seqOpen rfl hf, fun hr => ⟨Vector.replicate 17 0x00, fun k => ?_, ?_⟩⟩⟩
  · exact Vector.getElem_replicate _
  · exact exec_renderBegin hf hr

/-- Settles O32: a merge of Off leaves the buffer as it is. -/
theorem mergeOffChangesNothing : Obligations.MergeOffChangesNothing := by
  refine fun l s => ⟨rfl, fun hf => ⟨raises_seqNotOpen rfl hf, fun hr => (exec_merge .off l hf hr).trans ?_⟩⟩
  rw [mergeInto, mergeLayer_off]
  rfl

/-- Settles O33: Green selects the green plane of each row alone. -/
theorem mergeGreenOrsGreenRows : Obligations.MergeGreenOrsGreenRows := by
  refine fun l s => ⟨rfl, fun hf => ⟨raises_seqNotOpen rfl hf, fun hr => ?_⟩⟩
  obtain ⟨haddr, hrows⟩ := mergeLayerOrsSelectedPlanes s.wb l .green
  exact ⟨_, haddr, hrows, exec_merge .green l hf hr⟩

/-- Settles O34: Red selects the red plane of each row alone. -/
theorem mergeRedOrsRedRows : Obligations.MergeRedOrsRedRows := by
  refine fun l s => ⟨rfl, fun hf => ⟨raises_seqNotOpen rfl hf, fun hr => ?_⟩⟩
  obtain ⟨haddr, hrows⟩ := mergeLayerOrsSelectedPlanes s.wb l .red
  exact ⟨_, haddr, hrows, exec_merge .red l hf hr⟩

/-- Settles O35: Yellow selects both planes of each row, and the merge in Green leaves the render open for the one in Red. -/
theorem mergeYellowOrsBothRows : Obligations.MergeYellowOrsBothRows := by
  refine fun l s => ⟨rfl, fun hf => ⟨raises_seqNotOpen rfl hf, fun hr => ?_⟩⟩
  have hyellow : exec (.mergeY l) s = .next (mergeInto l .yellow (clearOutputs s)) := exec_merge .yellow l hf hr
  have hgreen : exec (.mergeG l) s = .next (mergeInto l .green (clearOutputs s)) := exec_merge .green l hf hr
  have hred : exec (.mergeR l) (mergeInto l .green (clearOutputs s)) =
      .next (mergeInto l .red (mergeInto l .green (clearOutputs s))) :=
    exec_merge .red l (by simpa using hf) (by simpa using hr)
  obtain ⟨haddr, hrows⟩ := mergeLayerOrsSelectedPlanes s.wb l .yellow
  refine ⟨⟨_, haddr, hrows, hyellow⟩, ?_⟩
  rw [runRequests_cons hgreen, runRequests_cons hred, hyellow, mergeInto_yellow, runRequests]

/-- Settles O36: RENDER_COMMIT is an emitting request that needs a render open, and its transfer is WB. -/
theorem renderCommitSendsTheBuffer : Obligations.RenderCommitSendsTheBuffer :=
  ⟨rfl, fun _ hf => ⟨raises_seqNotOpen rfl hf,
    fun hr => transmits_requestTransfer rfl hf (sequencingFault_opened_eq_none_iff.mpr hr)⟩⟩

/-! ### CLEAR, WRITE_RAW and NOP -/

/-- A raw image of zeros is sent as CLEAR's transfer is (43_display_buffer.md R87). -/
theorem displayTransfer_zeros : displayTransfer (Vector.replicate 16 0x00) = clearTransfer := rfl

/-- A successful display write leaves its data in the actuator's RAM (10_state.md R27). -/
theorem ram_after_displayTransfer (log : List TxRecord) (d : Image) :
    (actuatorFields (log ++ [⟨displayTransfer d, true⟩])).ram = some d := by
  rw [actuatorFields_append_one, displayTransfer, Config.dbufAddr, applyTransfer_displayWrite]
  rfl

/-- Settles O37: CLEAR is an emitting request that needs no render open, and its transfer writes an image of zeros. -/
theorem clearSendsZeroImage : Obligations.ClearSendsZeroImage :=
  ⟨rfl, fun s hf => ⟨raises_seqOpen rfl hf,
    fun hr => transmits_requestTransfer rfl hf (sequencingFault_closed_eq_none_iff.mpr hr),
    ram_after_displayTransfer s.txlog (Vector.replicate 16 0x00)⟩⟩

/-- Settles O38: WRITE_RAW is an emitting request that needs no render open, and its transfer writes its operand's image. -/
theorem writeRawSendsItsImage : Obligations.WriteRawSendsItsImage := by
  refine fun d s => ⟨rfl, fun hf => ⟨raises_seqOpen rfl hf, fun hr => ?_, ram_after_displayTransfer s.txlog d, ?_⟩⟩
  · exact transmits_requestTransfer rfl hf (sequencingFault_closed_eq_none_iff.mpr hr)
  · rw [exec, exec, execWriteRaw, displayTransfer_zeros, execClear]

/-- Settles O39: NOP passes its sequencing check and does nothing to the state with empty outputs. -/
theorem nopChangesNothing : Obligations.NopChangesNothing :=
  ⟨rfl, fun _ hf => exec_either rfl hf⟩

/-! ### A whole render -/

/-- The buffer after a list of merges, in the order given (43_display_buffer.md R90). -/
def mergeLayers (wb : Buffer) (layers : List (Layer × Color)) : Buffer :=
  layers.foldl (fun wb lc => mergeLayer wb lc.1 lc.2) wb

theorem mergeLayers_cons (wb : Buffer) (lc : Layer × Color) (layers : List (Layer × Color)) :
    mergeLayers wb (lc :: layers) = mergeLayers (mergeLayer wb lc.1 lc.2) layers := by
  rw [mergeLayers, List.foldl_cons, mergeLayers]

/-- The state after a list of merges: they write WB alone (43_display_buffer.md R80). -/
def mergeAllInto (layers : List (Layer × Color)) (s : State) : State :=
  { s with wb := mergeLayers s.wb layers }

theorem mergeAllInto_cons (lc : Layer × Color) (layers : List (Layer × Color)) (s : State) :
    mergeAllInto (lc :: layers) s = mergeAllInto layers (mergeInto lc.1 lc.2 s) := by
  simp only [mergeAllInto, mergeLayers_cons, mergeInto]

/-- A run of merges in an open render, up to the requests after them. -/
theorem runRequests_merges (layers : List (Layer × Color)) (is : List Instr) {s : State} (hf : s.fatal = false)
    (hr : s.ropen = true) :
    runRequests (layers.map (fun lc => Instr.merge lc.2 lc.1) ++ is) (clearOutputs s) =
      runRequests is (clearOutputs (mergeAllInto layers s)) := by
  induction layers generalizing s with
  | nil => rfl
  | cons lc layers ih =>
    have hmerge : exec (Instr.merge lc.2 lc.1) (clearOutputs s) = .next (clearOutputs (mergeInto lc.1 lc.2 s)) :=
      exec_merge lc.2 lc.1 hf hr
    have hrest := ih (s := mergeInto lc.1 lc.2 s) (by simpa using hf) (by simpa using hr)
    rw [List.map_cons, List.cons_append, runRequests_cons hmerge, hrest, mergeAllInto_cons]

/-- A layer joins the OR of a row where its colour selects the plane (43_display_buffer.md R90). -/
theorem rowUnion_cons (selects : Color → Bool) (l : Layer) (c : Color) (layers : List (Layer × Color)) (r : Fin 8) :
    rowUnion selects ((l, c) :: layers) r = (if selects c then l[r] else 0x00) ||| rowUnion selects layers r := by
  unfold rowUnion
  rw [List.filter_cons]
  cases selects c <;> simp

/-- A byte after a list of merges: the OR of its row over the layers whose colour selects its plane
(43_display_buffer.md R90). -/
theorem mergeLayers_getElem (wb : Buffer) (layers : List (Layer × Color)) (k : Fin 17) :
    (mergeLayers wb layers)[k] = wb[k] ||| rowUnion (fun c => selectsOffset c k) layers (offsetRow k) := by
  induction layers generalizing wb with
  | nil => exact BitVec.or_zero.symm
  | cons lc layers ih =>
    have hrow : rowUnion (fun c => selectsOffset c k) (lc :: layers) (offsetRow k) =
        layerByte lc.1 lc.2 k ||| rowUnion (fun c => selectsOffset c k) layers (offsetRow k) := rowUnion_cons ..
    rw [mergeLayers_cons, ih, mergeLayer_getElem_or, hrow, BitVec.or_assoc]

/-- The offsets in order: the address byte, then green and red of each row (20_memory.md R34). -/
theorem finRange_offsets :
    List.finRange 17 = 0 :: (List.finRange 8).flatMap fun r => [greenOffset r, redOffset r] := by
  decide

/-- The transfer of a buffer, row by row (20_memory.md R32, R34). -/
theorem bufferTransfer_eq_rows (wb : Buffer) :
    bufferTransfer wb = wb[0] :: (List.finRange 8).flatMap fun r => [wb[greenOffset r], wb[redOffset r]] := by
  have hbytes : bufferTransfer wb = (List.finRange 17).map fun k => wb[k] :=
    List.ext_getElem (by simp [bufferTransfer]) fun k _ _ => by simp [bufferTransfer]
  rw [hbytes, finRange_offsets, List.map_cons, List.map_flatMap]
  rfl

theorem selectsGreen_eq : selectsGreen = fun c => decide (c = .green ∨ c = .yellow) := by
  funext c; cases c <;> rfl

theorem selectsRed_eq : selectsRed = fun c => decide (c = .red ∨ c = .yellow) := by
  funext c; cases c <;> rfl

/-- A byte of a zeroed buffer after a render's merges: the OR of its row in its plane (43_display_buffer.md R90). -/
theorem mergeLayers_zero_getElem (layers : List (Layer × Color)) (k : Fin 17) :
    (mergeLayers (Vector.replicate 17 0x00) layers)[k] =
      rowUnion (fun c => selectsOffset c k) layers (offsetRow k) := by
  rw [mergeLayers_getElem, Fin.getElem_fin, Vector.getElem_replicate]
  exact BitVec.zero_or

/-- No layer joins the address byte (43_display_buffer.md R78). -/
theorem mergeLayers_zero_address_byte (layers : List (Layer × Color)) :
    (mergeLayers (Vector.replicate 17 0x00) layers)[0] = 0x00 := by
  have hnone : (fun c => selectsOffset c 0) = fun _ => false := rfl
  change (mergeLayers (Vector.replicate 17 0x00) layers)[(0 : Fin 17)] = 0x00
  rw [mergeLayers_zero_getElem, hnone, rowUnion, List.filter_false]
  rfl

/-- The transfer of a zeroed buffer after a render's merges (43_display_buffer.md R90). -/
theorem bufferTransfer_mergeLayers_zero (layers : List (Layer × Color)) :
    bufferTransfer (mergeLayers (Vector.replicate 17 0x00) layers) = renderBytes layers := by
  rw [bufferTransfer_eq_rows, mergeLayers_zero_address_byte, renderBytes, ← selectsGreen_eq, ← selectsRed_eq]
  simp only [mergeLayers_zero_getElem, selectsOffset_greenOffset, selectsOffset_redOffset, offsetRow_greenOffset,
    offsetRow_redOffset]

/-- A render begun with none open, up to its commit: its layers merged into a zeroed buffer, with empty outputs
(43_display_buffer.md R79, R80). -/
def mergedRender (layers : List (Layer × Color)) (s : State) : State :=
  clearOutputs (mergeAllInto layers (openRender s))

theorem runRequests_renderRequests (layers : List (Layer × Color)) {s : State} (hf : s.fatal = false)
    (hr : s.ropen = false) :
    runRequests (renderRequests layers) s = runRequests [.renderCommit] (mergedRender layers s) := by
  have hbegin : exec .renderBegin s = .next (clearOutputs (openRender s)) := exec_renderBegin hf hr
  rw [renderRequests, runRequests_cons hbegin, runRequests_merges layers _ (s := openRender s) hf rfl, mergedRender]

/-- Settles O41: the merges run on the buffer that RENDER_BEGIN zeroes, and RENDER_COMMIT sends what they leave there. -/
theorem renderEmitsUnionOfLayers : Obligations.RenderEmitsUnionOfLayers := by
  intro s layers hf hr ha
  obtain ⟨hcommit, -⟩ : Transmits .renderCommit (mergedRender layers s) (renderBytes layers) false := by
    rw [← bufferTransfer_mergeLayers_zero]
    exact transmits_requestTransfer rfl hf rfl
  refine ⟨_, (runRequests_renderRequests layers hf hr).trans (runRequests_cons (hcommit ha) []), rfl, rfl, ?_⟩
  simp [mergedRender, mergeAllInto, hf]

end Sys2Proof.Machine
end

section
/-! The reference host's program (44_host_control_loop.md): what it has pending stays well-bracketed, so that the block
under it faults only for a failed read or transfer and an acknowledgment stands behind a display write. -/

namespace Sys2Proof.Machine

/-! ### Moves of the host -/

/-- With nothing pending a step is a move of the host (log 16). -/
theorem step_idle {s : State} (hf : s.fatal = false) (hreqs : s.reqs = []) : step s = hostMove s := by
  simp [step, hf, hreqs, decodeRequest]

theorem step_idle_next {s : State} (hf : s.fatal = false) (hreqs : s.reqs = []) (hp : s.host.pos ≠ .exited) :
    step s = .next (clearOutputs (hostAction s.host.pos s)) := by
  rw [step_idle hf hreqs, hostMove, if_neg hp]

/-- An action leaves FATAL, ROPEN and TXLOG alone (00_scope.md R6). -/
theorem hostAction_block (p : HostPos) (s : State) :
    (hostAction p s).fatal = s.fatal ∧ (hostAction p s).ropen = s.ropen ∧ (hostAction p s).txlog = s.txlog := by
  obtain ⟨_, _, _, _, _, h⟩ := OnlyPresents.of_hostAction p s
  rw [h]
  exact ⟨rfl, rfl, rfl⟩

/-- What an action of the host does to the pending bytes and the position: it presents whole requests, well-bracketed where
no render is open, and it comes to the acknowledgment only behind a RENDER_COMMIT (44_host_control_loop.md R101, R105). -/
def PresentsBracketed (s t : State) : Prop :=
  ∃ is : List Instr, t.reqs = s.reqs ++ encodeAll is ∧ bracketed false is = true ∧
    (t.host.pos = .ack → is.getLast? = some .renderCommit)

namespace PresentsBracketed

variable {s t : State}

theorem of_none (hreqs : t.reqs = s.reqs) (hp : t.host.pos ≠ .ack) : PresentsBracketed s t :=
  ⟨[], by simp [hreqs], rfl, fun h => absurd h hp⟩

theorem of_issue {is : List Instr} {next : HostPos} (hreqs : t.reqs = s.reqs) (his : bracketed false is = true)
    (hnext : next ≠ .ack) : PresentsBracketed s (issue is next t) :=
  ⟨is, by simp [issue, hreqs], his, fun h => absurd h hnext⟩

end PresentsBracketed

/-- The process goes on to the position that a transport operation leads to, or ends; it is not brought to the
acknowledgment. -/
theorem afterTransport_ne_ack {ok : Bool} {next : HostPos} (h : next ≠ .ack) : afterTransport ok next ≠ .ack := by
  cases ok with
  | true => exact h
  | false => exact HostPos.noConfusion

@[simp] theorem hostOperation_reqs (next : HostPos) (s : State) : (hostOperation next s).reqs = s.reqs :=
  transportDrawn_reqs s

@[simp] theorem sensorWrite_reqs (bytes : List Byte) (next : HostPos) (s : State) :
    (sensorWrite bytes next s).reqs = s.reqs :=
  transportDrawn_reqs s

@[simp] theorem hostOperation_pos (next : HostPos) (s : State) :
    (hostOperation next s).host.pos = afterTransport (transportAnswer s) next := rfl

@[simp] theorem sensorWrite_pos (bytes : List Byte) (next : HostPos) (s : State) :
    (sensorWrite bytes next s).host.pos = afterTransport (transportAnswer s) next := rfl

/-- A sensor write joins the host's log with the transport's answer (44_host_control_loop.md R104). -/
@[simp] theorem sensorWrite_sensorLog (bytes : List Byte) (next : HostPos) (s : State) :
    (sensorWrite bytes next s).host.sensorLog = s.host.sensorLog ++ [⟨bytes, transportAnswer s⟩] := by
  simp [sensorWrite]

theorem presentsBracketed_hostOperation {next : HostPos} (h : next ≠ .ack) (s : State) :
    PresentsBracketed s (hostOperation next s) :=
  .of_none (by simp) (afterTransport_ne_ack h)

theorem presentsBracketed_sensorWrite (bytes : List Byte) {next : HostPos} (h : next ≠ .ack) (s : State) :
    PresentsBracketed s (sensorWrite bytes next s) :=
  .of_none (by simp) (afterTransport_ne_ack h)

theorem presentsBracketed_identifyByte (got : Fin 6) (s : State) : PresentsBracketed s (identifyByte got s) := by
  unfold identifyByte
  split
  · exact .of_none (by simp) (by simp only [hostAt_host]; split <;> exact HostPos.noConfusion)
  · exact .of_none (by simp) HostPos.noConfusion
  · exact .of_none (by simp) HostPos.noConfusion

theorem presentsBracketed_diagAction (k : Nat) (s : State) : PresentsBracketed s (diagAction k s) := by
  unfold diagAction
  split
  · exact .of_issue rfl rfl HostPos.noConfusion
  · exact .of_none rfl HostPos.noConfusion
  · exact .of_none rfl HostPos.noConfusion

theorem presentsBracketed_pollSensor (s : State) : PresentsBracketed s (pollSensor s) := by
  unfold pollSensor
  split <;> exact .of_issue (sensorDrawn_reqs s) rfl HostPos.noConfusion

theorem presentsBracketed_lookAtOutputs (s : State) : PresentsBracketed s (lookAtOutputs s) := by
  unfold lookAtOutputs blinkOnSelect
  split
  · split
    · exact .of_issue (t := advanceBlink s) rfl rfl HostPos.noConfusion
    · exact .of_none rfl HostPos.noConfusion
  · exact .of_none rfl HostPos.noConfusion

/-- A frame's render is a RENDER_BEGIN, two merges and a RENDER_COMMIT (44_host_control_loop.md R96, R99). -/
theorem bracketed_frameRender (s : State) (pupil : GlyphName) (c : Color) :
    bracketed false (frameRender s pupil c) = true := by
  cases c <;> rfl

/-- Whatever the host's position, its action presents requests in well-bracketed order; only the render leads to the
acknowledgment. -/
theorem presentsBracketed_hostAction (p : HostPos) (hp : p ≠ .exited) (s : State) :
    PresentsBracketed s (hostAction p s) := by
  cases p with
  | openSensor | openActuator | selectSensor | selectActuator =>
    exact presentsBracketed_hostOperation HostPos.noConfusion s
  | encryptFirst | encryptSecond | identify | handshakeAck | ack =>
    exact presentsBracketed_sensorWrite _ HostPos.noConfusion s
  | identifyRead got => exact presentsBracketed_identifyByte got s
  | settle | handshakeDone | sleep => exact .of_none rfl HostPos.noConfusion
  | oscOn | blinkOff | brightMax | clear => exact .of_issue rfl rfl HostPos.noConfusion
  | diag k => exact presentsBracketed_diagAction k s
  | poll => exact presentsBracketed_pollSensor s
  | outputs => exact presentsBracketed_lookAtOutputs s
  | render pupil c => exact ⟨frameRender s pupil c, rfl, bracketed_frameRender s pupil c, fun _ => rfl⟩
  | exited => exact absurd rfl hp

/-! ### Requests that do not fault -/

theorem exec_of_check {i : Instr} {s : State} (hf : s.fatal = false)
    (hq : sequencingFault (requestNeed i) s.ropen = none) : exec i s = .next (requestAction i (clearOutputs s)) := by
  rw [exec_eq_perform, perform_action _ hf hq]

/-- An emitting request that leaves the block running has made its transfer (60_exceptions.md R109). -/
theorem requestAction_of_emits_running {i : Instr} {s : State} (he : emits i = true)
    (hrun : (requestAction i s).fatal = false) : requestAction i s =
      afterTransfer i { actuatorDrawn s with txlog := s.txlog ++ [⟨requestTransfer i s, true⟩] } := by
  obtain ⟨-, h⟩ | ⟨-, h⟩ := emitting_cases he s
  · exact h
  · rw [h] at hrun; cases hrun

/-- ROPEN after a request that does not fault (43_display_buffer.md R79, R85). -/
theorem requestAction_ropen_of_running {i : Instr} {s : State} (hrun : (requestAction i s).fatal = false) :
    (requestAction i s).ropen = openAfter i s.ropen := by
  cases i with
  | renderBegin => rfl
  | renderCommit => rw [requestAction_of_emits_running rfl hrun]; rfl
  | nop | feed | feedEmpty | feedError | oscOn | setBrightness | setBlink | clear | writeRaw | mergeOff | mergeG | mergeR
  | mergeY => exact requestAction_ropen Instr.noConfusion Instr.noConfusion s

/-- A RENDER_COMMIT that does not fault has just sent the display buffer (43_display_buffer.md R85). -/
theorem lastWasDisplayWrite_renderCommit {s : State} (hrun : (requestAction .renderCommit s).fatal = false) :
    lastWasDisplayWrite (requestAction .renderCommit s).txlog := by
  rw [requestAction_of_emits_running rfl hrun, afterTransfer_txlog]
  exact ⟨_, List.getLast?_concat, rfl, s.wb.length_toList⟩

/-- Once its check has passed, a request faults only for a failed read or a failed transfer (60_exceptions.md R106). -/
theorem requestAction_cause {i : Instr} {s : State} (hf : s.fatal = false) (hfault : (requestAction i s).fatal = true) :
    (requestAction i s).cause = 0x01 ∨ (requestAction i s).cause = 0x02 := by
  cases he : emits i with
  | true =>
    obtain ⟨-, h⟩ | ⟨-, h⟩ := emitting_cases he s
    · simp [h, hf] at hfault
    · rw [h]; exact .inr rfl
  | false =>
    cases i with
    | oscOn | setBrightness | setBlink | clear | renderCommit | writeRaw => cases he
    | feedError => exact .inl rfl
    | nop | feed | feedEmpty | renderBegin | mergeOff | mergeG | mergeR | mergeY => simp [requestAction, hf] at hfault

/-! ### The host's invariant -/

/-- A state of the invariant in which the block runs is between two requests, or has one to perform that meets the sequencing
check: everything a step can be there. -/
theorem HostInv.step_cases {s t : State} (h : HostInv s) (hstep : step s = .next t) :
    (s.fatal = false ∧ s.ropen = false ∧ s.reqs = [] ∧ s.host.pos ≠ .exited ∧
      (s.host.pos = .ack → lastWasDisplayWrite s.txlog) ∧ t = clearOutputs (hostAction s.host.pos s)) ∨
    ∃ i is, s.fatal = false ∧ bracketed (openAfter i s.ropen) is = true ∧
      (s.host.pos = .ack → (i :: is).getLast? = some .renderCommit) ∧
      t = requestAction i (clearOutputs (withRequests (encodeAll is) s)) := by
  have hf : s.fatal = false := (Machine.step_cases hstep).1
  obtain ⟨is, hreqs, hbracket, hack⟩ := h hf
  cases is with
  | nil =>
    rw [step_idle hf hreqs] at hstep
    obtain ⟨hp, ht⟩ := hostMove_next hstep
    refine .inl ⟨hf, by simpa [bracketed] using hbracket, hreqs, hp, fun h => ?_, ht⟩
    obtain ⟨-, hlog⟩ | hlast := hack h
    · exact hlog
    · cases hlast
  | cons i is =>
    obtain ⟨hcheck, hrest⟩ := Bool.and_eq_true_iff.mp hbracket
    have hd : decodeRequest s.reqs = .ok (i, encodeAll is) := by
      rw [hreqs, encodeAll_cons, decodeOfEncodeIsTheRequest]
    have hexec : exec i (withRequests (encodeAll is) s) = _ :=
      exec_of_check hf (Option.isNone_iff_eq_none.mp hcheck)
    rw [step_request hf hd, hexec] at hstep
    cases hstep
    refine .inr ⟨i, is, hf, hrest, fun h => ?_, rfl⟩
    obtain ⟨hnil, -⟩ | hlast := hack h
    · cases hnil
    · exact hlast

/-- Settles O57: a move of the host presents well-bracketed requests where none were pending, and a request that does not
fault leaves the others well-bracketed; the acknowledgment waits for its RENDER_COMMIT, whose transfer is a display write. -/
theorem hostInvariantKeptByStep : Obligations.HostInvariantKeptByStep := by
  intro s t h hstep hrun
  obtain ⟨-, hr, hreqs, hp, -, rfl⟩ | ⟨i, is, -, hrest, hlast, rfl⟩ := h.step_cases hstep
  · obtain ⟨is, hpresented, hbracket, hack⟩ := presentsBracketed_hostAction s.host.pos hp s
    obtain ⟨-, hropen, -⟩ := hostAction_block s.host.pos s
    refine ⟨is, by simpa [hreqs] using hpresented, ?_, fun hpos => .inr (hack hpos)⟩
    rwa [clearOutputs_ropen, hropen, hr]
  · obtain ⟨hkept, hhost, -⟩ := surroundingsKept_requestAction i (clearOutputs (withRequests (encodeAll is) s))
    refine ⟨is, hkept, (requestAction_ropen_of_running hrun).symm ▸ hrest, fun hpos => ?_⟩
    have hcommit := hlast (by rwa [hhost] at hpos)
    cases is with
    | nil =>
      obtain rfl : i = .renderCommit := by simpa using hcommit
      exact .inl ⟨rfl, lastWasDisplayWrite_renderCommit hrun⟩
    | cons j js => exact .inr hcommit

/-- Settles O59: the host's own moves raise nothing, and a pending request has passed its sequencing check. -/
theorem referenceHostNeverMissequences : Obligations.ReferenceHostNeverMissequences := by
  intro s t h hf hstep hfault
  obtain ⟨-, -, -, -, -, rfl⟩ | ⟨i, is, -, -, -, rfl⟩ := h.step_cases hstep
  · obtain ⟨hkept, -, -⟩ := hostAction_block s.host.pos s
    simp [hkept, hf] at hfault
  · exact requestAction_cause hf hfault

/-- Settles O60: a request writes nothing to the sensor, so the step is the host's own write, with nothing pending. -/
theorem acknowledgmentFollowsTheRender : Obligations.AcknowledgmentFollowsTheRender := by
  intro s t h hstep hack hnew
  obtain ⟨-, -, hreqs, -, hlog, rfl⟩ | ⟨i, is, -, -, -, rfl⟩ := h.step_cases hstep
  · refine ⟨hreqs, hlog hack, transportAnswer s, ?_⟩
    rw [hack]
    exact sensorWrite_sensorLog [Config.ackByte] .sleep s
  · obtain ⟨-, hhost, -⟩ := surroundingsKept_requestAction i (clearOutputs (withRequests (encodeAll is) s))
    exact absurd (congrArg HostState.sensorLog hhost) hnew

end Sys2Proof.Machine
end

section
/-! One move of the reference host (44_host_control_loop.md): the selections, the poll, the look at the outputs, and the
moves that end a run. -/

namespace Sys2Proof.Machine

/-! ### Selections -/

/-- Settles O50: each clause's condition decides the tests of SelectPupil up to its own. -/
theorem pupilFollowsPriority : Obligations.PupilFollowsPriority := by
  intro b
  refine ⟨?_, ?_, ?_, ?_, ?_, ?_, ?_, ?_, ?_⟩ <;> simp +contextual [selectPupil]

/-- Settles O51: each case's condition decides the tests of SelectColor up to its own. -/
theorem colorFollowsPrecedence : Obligations.ColorFollowsPrecedence := by
  intro b
  refine ⟨?_, ?_, ?_, ?_⟩ <;> simp +contextual [selectColor]

/-! ### Polling -/

theorem sensorAnswer_of_tape {s : State} {a : SensorAnswer} {more : List SensorAnswer} (h : s.sensorTape = a :: more) :
    sensorAnswer s = a ∧ sensorDrawn s = { s with sensorTape := more } := by
  simp [sensorAnswer, sensorDrawn, h]

/-- Settles O53: with nothing pending the request of the answer is all that is presented. -/
theorem pollTurnsReadIntoRequest : Obligations.PollTurnsReadIntoRequest := by
  intro s a more hf hreqs hp htape
  obtain ⟨ha, hdrawn⟩ := sensorAnswer_of_tape htape
  have hstep : step s = .next (clearOutputs (pollSensor s)) := by rw [step_idle_next hf hreqs (by simp [hp]), hp]; rfl
  rw [hstep, pollSensor, ha, hdrawn]
  cases a <;> simp [clearOutputs, issue, hostAt, present, hreqs, encode]

theorem step_outputs {s : State} (hf : s.fatal = false) (hreqs : s.reqs = []) (hp : s.host.pos = .outputs) :
    step s = .next (clearOutputs (lookAtOutputs s)) := by
  rw [step_idle_next hf hreqs (by simp [hp]), hp]; rfl

/-- BLINKCTR has two bits, so that the next value is one more modulo 4, also as SET_BLINK's operand
(44_host_control_loop.md R92, R100). -/
theorem blinkCtr_add_one (ctr : BitVec 2) :
    (ctr + 1).toNat = (ctr.toNat + 1) % 4 ∧ (ctr + 1).setWidth 8 = BitVec.ofNat 8 ((ctr.toNat + 1) % 4) := by
  revert ctr; decide

/-- Settles O54: on a completed frame the blink request is presented, if at all, and the render is next; with none the host
looks at empty outputs and goes to the sleep. -/
theorem selectAdvancesBlinkCounter : Obligations.SelectAdvancesBlinkCounter := by
  constructor
  · intro s f btn hf hreqs hp hframe hbtn
    have hlook : lookAtOutputs s = hostAt (.render (selectPupil btn) (selectColor btn)) (blinkOnSelect btn s) := by
      simp only [lookAtOutputs, hframe, hbtn]
    obtain ⟨hctr, hrate⟩ := blinkCtr_add_one s.host.blinkCtr
    have hpresented : s.reqs ++ encodeAll [.setBlink ((s.host.blinkCtr + 1).setWidth 8)] =
        [0x12, BitVec.ofNat 8 ((s.host.blinkCtr.toNat + 1) % 4)] := by rw [hreqs, hrate]; rfl
    refine ⟨_, step_outputs hf hreqs hp, ?_⟩
    rw [hlook, blinkOnSelect]
    cases btn.selectMinus with
    | true => exact ⟨rfl, rfl, rfl, fun _ => ⟨hctr, hpresented⟩, Bool.noConfusion⟩
    | false => exact ⟨rfl, rfl, rfl, Bool.noConfusion, fun _ => ⟨rfl, hreqs⟩⟩
  · intro s hf hreqs hp hframe
    have hlook : lookAtOutputs s = hostAt .sleep s := by simp only [lookAtOutputs, hframe]
    rw [step_outputs hf hreqs hp, hlook]
    rfl

/-! ### Ends of a run -/

/-- At its end the host's process has no step (44_host_control_loop.md R103). -/
theorem step_exited {s : State} (hf : s.fatal = false) (hreqs : s.reqs = []) (hp : s.host.pos = .exited) :
    step s = .fault .hostExited := by
  rw [step_idle hf hreqs, hostMove, if_pos hp]

/-- An action that leads to the end and presents nothing ends the run. -/
theorem endsRun_of_action {s : State} (hf : s.fatal = false) (hreqs : s.reqs = []) (hp : s.host.pos ≠ .exited)
    (hend : (hostAction s.host.pos s).host.pos = .exited) (hkept : (hostAction s.host.pos s).reqs = s.reqs) :
    EndsRun s := by
  obtain ⟨hfatal, -, hlog⟩ := hostAction_block s.host.pos s
  have hnone : (hostAction s.host.pos s).reqs = [] := hkept.trans hreqs
  exact ⟨_, step_idle_next hf hreqs hp, hend, hnone, hlog, step_exited (hfatal.trans hf) hnone hend⟩

/-- At an open, an address select or a sensor write the host goes where the transport's answer leads
(44_host_control_loop.md R94, R95, R101). -/
theorem hostAction_transport {p : HostPos} (h : p ∈ [.openSensor, .openActuator, .selectSensor, .selectActuator,
      .encryptFirst, .encryptSecond, .identify, .handshakeAck, .ack]) (s : State) :
    p ≠ .exited ∧ (hostAction p s).reqs = s.reqs ∧
      ∃ next, (hostAction p s).host.pos = afterTransport (transportAnswer s) next := by
  cases p with
  | openSensor | openActuator | selectSensor | selectActuator =>
    exact ⟨HostPos.noConfusion, hostOperation_reqs _ s, _, rfl⟩
  | encryptFirst | encryptSecond | identify | handshakeAck | ack =>
    exact ⟨HostPos.noConfusion, sensorWrite_reqs _ _ s, _, rfl⟩
  | _ => simp at h

/-- FEED_ERROR, presented alone, halts the block (40_framer.md R63). -/
theorem step_feedError {s : State} (hf : s.fatal = false) (hreqs : s.reqs = encode .feedError) :
    step s = .next (raiseFatal .rxIoError (clearOutputs (withRequests [] s))) :=
  (step_request hf (congrArg decodeRequest hreqs)).trans (exec_either rfl hf)

/-- Settles O56: a failing answer leads the host's own operations to its end, and a failed read of Polling is FEED_ERROR. -/
theorem transportFailureEndsTheRun : Obligations.TransportFailureEndsTheRun := by
  refine ⟨fun s hf hreqs ha hmem => ?_, fun s got hf hreqs ha hp => ?_, fun s hf hreqs ha hp => ?_, fun s => step_halted,
    fun s => step_exited⟩
  · obtain ⟨hp, hkept, next, hnext⟩ := hostAction_transport hmem s
    exact endsRun_of_action hf hreqs hp (by rw [hnext, ha]; rfl) hkept
  · have haction : hostAction s.host.pos s = hostAt .exited (sensorDrawn s) := by
      rw [hp]; simp only [hostAction, identifyByte, ha]
    refine endsRun_of_action hf hreqs (by simp [hp]) ?_ ?_ <;> simp [haction]
  · have haction : hostAction s.host.pos s = issue [.feedError] .outputs (sensorDrawn s) := by
      rw [hp]; simp only [hostAction, pollSensor, ha]
    obtain ⟨hfatal, -, hlog⟩ := hostAction_block s.host.pos s
    have hpresented : (hostAction s.host.pos s).reqs = encode .feedError := by simp [haction, issue, hreqs]
    exact ⟨_, _, step_idle_next hf hreqs (by simp [hp]),
      step_feedError (s := clearOutputs _) (hfatal.trans hf) hpresented, rfl, rfl, hlog⟩

end Sys2Proof.Machine
end

section
/-! Runs of the reference host (44_host_control_loop.md): presented requests are performed one a step, so that a frame is
rendered before it is acknowledged and the Handshake makes its transfers in order. -/

namespace Sys2Proof.Machine

/-! ### Runs of steps -/

theorem run_of_step {s t : State} (h : step s = .next t) (n : Nat) :
    Host.Core.run Sys2Proof.core (n + 1) s = Host.Core.run Sys2Proof.core n t := by
  have hcore : Sys2Proof.core.step s = .next t := h
  simp only [Host.Core.run, hcore]

theorem run_add {s t : State} {n : Nat} (h : Host.Core.run Sys2Proof.core n s = .next t) (k : Nat) :
    Host.Core.run Sys2Proof.core (n + k) s = Host.Core.run Sys2Proof.core k t := by
  induction n generalizing s with
  | zero => cases h; rw [Nat.zero_add]
  | succ n ih =>
    rw [Nat.add_right_comm]
    simp only [Host.Core.run] at h ⊢
    split at h
    · exact ih h
    · cases h
    · cases h

/-- Some number of steps leads from `s` to `t`. -/
def Reaches (s t : State) : Prop :=
  ∃ n, Host.Core.run Sys2Proof.core n s = .next t

theorem Reaches.trans {s t u : State} (h : Reaches s t) (h' : Reaches t u) : Reaches s u := by
  obtain ⟨n, hn⟩ := h
  obtain ⟨k, hk⟩ := h'
  exact ⟨n + k, (run_add hn k).trans hk⟩

theorem Reaches.of_step {s t : State} (h : step s = .next t) : Reaches s t :=
  ⟨1, run_of_step h 0⟩

/-! ### Pending requests -/

theorem actuatorDrawn_withRequests (rest : List Byte) (s : State) :
    actuatorDrawn (withRequests rest s) = withRequests rest (actuatorDrawn s) := by
  cases htape : s.actuatorTape <;> simp [actuatorDrawn, withRequests, htape]

theorem requestAction_withRequests (i : Instr) (rest : List Byte) (s : State) :
    requestAction i (withRequests rest s) = withRequests rest (requestAction i s) := by
  cases he : emits i with
  | true =>
    have hseq : requestTransfer i (withRequests rest s) = requestTransfer i s := rfl
    rw [requestAction_of_emits he, requestAction_of_emits he, hseq, transfer, transfer, actuatorAnswer_withRequests, emit,
      actuatorDrawn_withRequests, afterTransfer, afterTransfer]
    split_ifs <;> rfl
  | false =>
    cases i with
    | oscOn | setBrightness | setBlink | clear | renderCommit | writeRaw => cases he
    | feed b => by_cases h5 : s.widx = 5 <;> simp [requestAction, feedByte, withRequests, putOutputs, h5]
    | nop | feedEmpty | feedError | renderBegin | mergeOff | mergeG | mergeR | mergeY => rfl

/-- The bytes pending behind a request play no part in it (30_encoding.md R49). -/
theorem exec_withRequests {i : Instr} {s t : State} (h : exec i s = .next t) (rest : List Byte) :
    exec i (withRequests rest s) = .next (withRequests rest t) := by
  obtain ⟨hf, ⟨c, hc, rfl⟩ | ⟨hc, rfl⟩⟩ := exec_cases h
  · exact (exec_eq_perform i _).trans (perform_fault _ hf hc)
  · rw [exec_of_check (s := withRequests rest s) hf hc]
    exact congrArg _ (requestAction_withRequests i rest (clearOutputs s))

theorem runRequests_cons_next {i : Instr} {is : List Instr} {s t : State} (h : runRequests (i :: is) s = .next t) :
    ∃ u, exec i s = .next u ∧ runRequests is u = .next t := by
  rw [runRequests] at h
  split at h
  · exact ⟨_, by assumption, h⟩
  · cases h
  · cases h

/-- What no request writes, no list of requests does. -/
theorem runRequests_surroundingsKept {is : List Instr} {s t : State} (h : runRequests is s = .next t) :
    SurroundingsKept s t := by
  induction is generalizing s with
  | nil => cases h; exact ⟨rfl, rfl, rfl, rfl, rfl⟩
  | cons i is ih =>
    obtain ⟨u, hexec, hrun⟩ := runRequests_cons_next h
    obtain ⟨hreqs, hhost, hmap, hsensor, htransport, -⟩ := requestsWriteOnlyTheirState i s u hexec
    obtain ⟨hreqs', hhost', hmap', hsensor', htransport'⟩ := ih hrun
    exact ⟨hreqs'.trans hreqs, hhost'.trans hhost, hmap'.trans hmap, hsensor'.trans hsensor,
      htransport'.trans htransport⟩

/-- The block performs the pending requests one a step, in the order presented (00_scope.md R12). -/
theorem run_pending {is : List Instr} {s t : State} (h : runRequests is s = .next t) :
    Host.Core.run Sys2Proof.core is.length (withRequests (encodeAll is ++ s.reqs) s) = .next t := by
  induction is generalizing s with
  | nil => exact h
  | cons i is ih =>
    obtain ⟨u, hexec, hrun⟩ := runRequests_cons_next h
    obtain ⟨hreqs, -⟩ := requestsWriteOnlyTheirState i s u hexec
    have hd : decodeRequest (encodeAll (i :: is) ++ s.reqs) = .ok (i, encodeAll is ++ s.reqs) := by
      rw [encodeAll_cons, List.append_assoc, decodeOfEncodeIsTheRequest]
    have hstep := stepPerformsThePresentedRequest (withRequests _ s) i _ hd
    rw [List.length_cons, run_of_step (hstep.trans (exec_withRequests hexec _)), ← hreqs]
    exact ih hrun

/-- A move that presents requests, and the steps that perform them. -/
theorem run_issue {is : List Instr} {next : HostPos} {s t : State} (hf : s.fatal = false) (hreqs : s.reqs = [])
    (hp : s.host.pos ≠ .exited) (haction : hostAction s.host.pos s = issue is next s)
    (hrun : runRequests is (clearOutputs (hostAt next s)) = .next t) :
    Host.Core.run Sys2Proof.core (is.length + 1) s = .next t := by
  have hpresented : clearOutputs (hostAction s.host.pos s) =
      withRequests (encodeAll is ++ s.reqs) (clearOutputs (hostAt next s)) := by
    rw [haction, hreqs, List.append_nil, issue, present, hreqs]; rfl
  rw [run_of_step (step_idle_next hf hreqs hp), hpresented]
  exact run_pending hrun

/-! ### A frame's render -/

theorem transportAnswer_of_tape {s : State} {ok : Bool} {more : List Bool} (h : s.transportTape = ok :: more) :
    transportAnswer s = ok := by
  simp [transportAnswer, h]

/-- The acknowledgment is one sensor write, and then the sleep (44_host_control_loop.md R101). -/
theorem step_ack {s : State} (hf : s.fatal = false) (hreqs : s.reqs = []) (hp : s.host.pos = .ack) :
    step s = .next (clearOutputs (sensorWrite [0x00] .sleep s)) := by
  rw [step_idle_next hf hreqs (by simp [hp]), hp]; rfl

/-- Settles O55: the render's four requests make its one transfer and write nothing to the sensor; the host then writes the
acknowledgment. -/
theorem renderThenAcknowledge : Obligations.RenderThenAcknowledge := by
  intro s pupil c moreTransport moreActuator hf hr hreqs hp hactuator htransport
  have ha : actuatorAnswer s = true := by simp [actuatorAnswer, hactuator]
  obtain ⟨t5, hrun, hlog, -, hfatal, -⟩ := renderEmitsUnionOfLayers (clearOutputs (hostAt .ack s))
    [(glyphLayer s .eyeball, .green), (glyphLayer s pupil, c)] hf hr ha
  obtain ⟨hreqs5, hhost, -, -, htape⟩ := runRequests_surroundingsKept hrun
  have hrun5 := run_issue hf hreqs (by simp [hp]) (by rw [hp]; rfl) hrun
  have hack : t5.host.pos = .ack := congrArg HostState.pos hhost
  have hsensor : t5.host.sensorLog = s.host.sensorLog := by rw [hhost]; rfl
  have hrun6 := (run_add hrun5 1).trans (run_of_step (step_ack hfatal (hreqs5.trans hreqs) hack) 0)
  have hok : transportAnswer t5 = true := transportAnswer_of_tape (htape.trans htransport)
  refine ⟨t5, _, hrun5, hrun6, hlog, hsensor, ?_, ?_, ?_⟩
  · exact transportDrawn_txlog t5
  · rw [clearOutputs_host, sensorWrite_sensorLog, hsensor, hok]
  · rw [clearOutputs_host, sensorWrite_pos, hok]; rfl

/-! ### The Handshake -/

/-- `s` with the host at `p`, the block running with no render open, and nothing pending. -/
def idleAt (p : HostPos) (s : State) : State :=
  { s with host := { s.host with pos := p }, fatal := false, ropen := false, reqs := [] }

theorem idleAt_self {s : State} (hf : s.fatal = false) (hr : s.ropen = false) (hreqs : s.reqs = []) :
    idleAt s.host.pos s = s := by
  cases s; cases hf; cases hr; cases hreqs; rfl

/-- `s` after the successful transfers `seqs`, with empty outputs. -/
def afterSending (seqs : List (List Byte)) (s : State) : State :=
  { s with
    actuatorTape := s.actuatorTape.drop seqs.length, txlog := s.txlog ++ seqs.map fun seq => ⟨seq, true⟩,
    frameOut := none, buttonsOut := none }

theorem afterSending_nil (s : State) : afterSending [] s = clearOutputs s := by
  simp [afterSending, clearOutputs]

theorem afterSending_afterSending (seqs more : List (List Byte)) (s : State) :
    afterSending more (afterSending seqs s) = afterSending (seqs ++ more) s := by
  simp [afterSending]

/-- A move of the host from an idle state. -/
theorem reaches_of_action {p : HostPos} {s t : State} (hp : p ≠ .exited) (haction : hostAction p (idleAt p s) = t) :
    Reaches (idleAt p s) (clearOutputs t) :=
  haction ▸ .of_step (step_idle_next rfl rfl hp)

/-- A move that presents one emitting request, and the request with the actuator's answer a success. -/
theorem reaches_afterSending {p next : HostPos} {i : Instr} {s : State} {tape : List Bool} (hp : p ≠ .exited)
    (haction : hostAction p (idleAt p s) = issue [i] next (idleAt p s)) (he : emits i = true) (hi : i ≠ .renderCommit)
    (htape : s.actuatorTape = true :: tape) :
    Reaches (idleAt p s) (idleAt next (afterSending [requestTransfer i s] s)) := by
  have hq : sequencingFault (requestNeed i) false = none := by rw [requestNeed_of_emits he hi]; rfl
  obtain ⟨hexec, -⟩ := transmits_requestTransfer (s := clearOutputs (idleAt next s)) he rfl hq
  have hdrawn : actuatorDrawn (clearOutputs (idleAt next s)) =
      { clearOutputs (idleAt next s) with actuatorTape := s.actuatorTape.drop 1 } := by
    simp [actuatorDrawn, idleAt, htape]
  have hrun : runRequests [i] (clearOutputs (hostAt next (idleAt p s))) =
      .next (idleAt next (afterSending [requestTransfer i s] s)) := by
    refine (runRequests_cons (hexec (by simp [actuatorAnswer, idleAt, htape])) []).trans ?_
    rw [hdrawn]; rfl
  exact ⟨2, run_issue rfl rfl hp haction hrun⟩

/-- `s` idle with the host at `p`, these answers to come, and this log of sensor writes. -/
def idleWith (p : HostPos) (transport : List Bool) (sensor : List SensorAnswer) (log : List SensorWrite) (s : State) :
    State :=
  idleAt p { s with transportTape := transport, sensorTape := sensor, host := { s.host with sensorLog := log } }

section HostMoves

variable {p next : HostPos} {transport : List Bool} {sensor : List SensorAnswer} {log : List SensorWrite} {s : State}

/-- An open or an address select that succeeds (44_host_control_loop.md R94). -/
theorem reaches_operation (hp : p ≠ .exited) (haction : ∀ t, hostAction p t = hostOperation next t) :
    Reaches (idleWith p (true :: transport) sensor log s) (idleWith next transport sensor log (clearOutputs s)) :=
  reaches_of_action hp (haction _)

/-- A sensor write that succeeds (30_encoding.md R58). -/
theorem reaches_sensorWrite {bytes : List Byte} (hp : p ≠ .exited)
    (haction : ∀ t, hostAction p t = sensorWrite bytes next t) :
    Reaches (idleWith p (true :: transport) sensor log s)
      (idleWith next transport sensor (log ++ [⟨bytes, true⟩]) (clearOutputs s)) :=
  reaches_of_action hp (haction _)

/-- A byte of the identify response (44_host_control_loop.md R95 step 3). -/
theorem reaches_identifyByte (got : Fin 6) (b : Byte) :
    Reaches (idleWith (.identifyRead got) transport (.byte b :: sensor) log s)
      (idleWith (if got = 5 then .handshakeAck else .identifyRead (got + 1)) transport sensor log (clearOutputs s)) :=
  reaches_of_action HostPos.noConfusion rfl

/-- The pause, which only ends (log 21). -/
theorem reaches_settled :
    Reaches (idleWith .settle transport sensor log s) (idleWith .oscOn transport sensor log (clearOutputs s)) :=
  reaches_of_action HostPos.noConfusion rfl

/-- Init's opens and selects (44_host_control_loop.md R94). -/
theorem reaches_encryptFirst :
    Reaches (idleWith .openSensor (List.replicate 4 true ++ transport) sensor log s)
      (idleWith .encryptFirst transport sensor log (clearOutputs s)) :=
  have hfirst : Reaches _ (idleWith .selectSensor (List.replicate 2 true ++ transport) sensor log (clearOutputs s)) :=
    (reaches_operation HostPos.noConfusion fun _ => rfl).trans (reaches_operation HostPos.noConfusion fun _ => rfl)
  hfirst.trans
    ((reaches_operation HostPos.noConfusion fun _ => rfl).trans (reaches_operation HostPos.noConfusion fun _ => rfl))

/-- The sensor writes that ask for the identify response (44_host_control_loop.md R95 steps 1 to 3). -/
theorem reaches_identifyRead :
    Reaches (idleWith .encryptFirst (List.replicate 3 true ++ transport) sensor log s)
      (idleWith (.identifyRead 0) transport sensor
        (log ++ [⟨[0xF0, 0x55], true⟩] ++ [⟨[0xFB, 0x00], true⟩] ++ [⟨[0xFA, 0x00], true⟩]) (clearOutputs s)) :=
  ((reaches_sensorWrite HostPos.noConfusion fun _ => rfl).trans
    (reaches_sensorWrite HostPos.noConfusion fun _ => rfl)).trans
    (reaches_sensorWrite HostPos.noConfusion fun _ => rfl)

/-- The bytes of the identify response that are still to come (44_host_control_loop.md R95 step 3). -/
theorem reaches_handshakeAck {bytes : List Byte} {got : Fin 6} (hlen : got.val + bytes.length = 6) :
    Reaches (idleWith (.identifyRead got) transport (bytes.map SensorAnswer.byte ++ sensor) log s)
      (idleWith .handshakeAck transport sensor log (clearOutputs s)) := by
  induction bytes generalizing got s with
  | nil => exact absurd hlen (Nat.ne_of_lt got.isLt)
  | cons b bytes ih =>
    rw [List.length_cons] at hlen
    have hmove : Reaches (idleWith (.identifyRead got) transport ((b :: bytes).map SensorAnswer.byte ++ sensor) log s) _ :=
      reaches_identifyByte got b
    by_cases hlast : got = 5
    · subst hlast
      have hfive : (5 : Fin 6).val = 5 := rfl
      obtain rfl : bytes = [] := List.eq_nil_of_length_eq_zero (by omega)
      exact hmove
    · rw [if_neg hlast] at hmove
      have hnext : (got + 1).val = got.val + 1 := Fin.val_add_one_of_lt' (by omega)
      exact hmove.trans (ih (s := clearOutputs s) (by omega))

/-- The acknowledgment byte and the pause (44_host_control_loop.md R95 step 4). -/
theorem reaches_oscOn :
    Reaches (idleWith .handshakeAck (true :: transport) sensor log s)
      (idleWith .oscOn transport sensor (log ++ [⟨[0x00], true⟩]) (clearOutputs s)) :=
  (reaches_sensorWrite HostPos.noConfusion fun _ => rfl).trans reaches_settled

end HostMoves

/-- The oscillator, blinking off and full brightness (44_host_control_loop.md R95 steps 5 to 7). -/
theorem reaches_diag {s : State} {tape : List Bool} (htape : s.actuatorTape = true :: true :: true :: tape) :
    Reaches (idleAt .oscOn s) (idleAt (.diag 0) (afterSending [[0x21], [0x81], [0xEF]] s)) := by
  have hosc : Reaches (idleAt .oscOn s) (idleAt .blinkOff (afterSending [[0x21]] s)) :=
    reaches_afterSending (i := .oscOn) HostPos.noConfusion rfl rfl Instr.noConfusion htape
  have hblink : Reaches (idleAt .blinkOff (afterSending [[0x21]] s))
      (idleAt .brightMax (afterSending [[0x81]] (afterSending [[0x21]] s))) :=
    reaches_afterSending (i := .setBlink 0) (tape := true :: tape) HostPos.noConfusion rfl rfl Instr.noConfusion
      (by simp [afterSending, htape])
  have hbright : Reaches (idleAt .brightMax (afterSending [[0x81]] (afterSending [[0x21]] s)))
      (idleAt (.diag 0) (afterSending [[0xEF]] (afterSending [[0x81]] (afterSending [[0x21]] s)))) :=
    reaches_afterSending (i := .setBrightness 15) (tape := tape) HostPos.noConfusion rfl rfl Instr.noConfusion
      (by simp [afterSending, htape])
  simpa [afterSending_afterSending] using (hosc.trans hblink).trans hbright

/-- The rest of the diagnostic sequence sends its images (44_host_control_loop.md R95 step 8). -/
theorem reaches_clear (items : List DiagItem) {k : Nat} {s : State} {tape : List Bool}
    (hitems : (diagSequence s).drop k = items)
    (htape : s.actuatorTape = List.replicate (diagImages items).length true ++ tape) :
    Reaches (idleAt (.diag k) s) (idleAt .clear (afterSending ((diagImages items).map displayTransfer) s)) := by
  induction items generalizing k s with
  | nil =>
    have hget : (diagSequence (idleAt (.diag k) s))[k]? = none := by
      rw [← List.head?_drop]; exact congrArg List.head? hitems
    rw [diagImages, List.filterMap_nil, List.map_nil, afterSending_nil]
    have haction : hostAction (.diag k) (idleAt (.diag k) s) = hostAt .clear (idleAt (.diag k) s) := by
      simp only [hostAction, diagAction, hget]
    exact reaches_of_action HostPos.noConfusion haction
  | cons item items ih =>
    have hget : (diagSequence (idleAt (.diag k) s))[k]? = some item := by
      rw [← List.head?_drop]; exact congrArg List.head? hitems
    have hrest : (diagSequence s).drop (k + 1) = items := by rw [← List.tail_drop, hitems]; rfl
    cases item with
    | delay =>
      have haction : hostAction (.diag k) (idleAt (.diag k) s) = hostAt (.diag (k + 1)) (idleAt (.diag k) s) := by
        simp only [hostAction, diagAction, hget]
      exact (reaches_of_action HostPos.noConfusion haction).trans (ih (s := clearOutputs s) hrest htape)
    | write d =>
      have hsend : Reaches (idleAt (.diag k) s) (idleAt (.diag (k + 1)) (afterSending [displayTransfer d] s)) :=
        reaches_afterSending (i := .writeRaw d) HostPos.noConfusion (by simp only [hostAction, diagAction, hget]) rfl
          Instr.noConfusion htape
      have htail : (afterSending [displayTransfer d] s).actuatorTape =
          List.replicate (diagImages items).length true ++ tape := by
        rw [afterSending, htape]; rfl
      have hsends := hsend.trans (ih hrest htail)
      rw [afterSending_afterSending] at hsends
      exact hsends

/-- The display cleared and BLINKCTR zeroed (44_host_control_loop.md R95 steps 9 and 10). -/
theorem reaches_poll {s : State} {tape : List Bool} (htape : s.actuatorTape = true :: tape) :
    Reaches (idleAt .clear s)
      (idleAt .poll { afterSending [clearTransfer] s with host := { s.host with blinkCtr := 0 } }) := by
  have hclear : Reaches (idleAt .clear s) (idleAt .handshakeDone (afterSending [clearTransfer] s)) :=
    reaches_afterSending (i := .clear) HostPos.noConfusion rfl rfl Instr.noConfusion htape
  exact hclear.trans (reaches_of_action HostPos.noConfusion rfl)

/-- The transfers of the Handshake, in order (44_host_control_loop.md R95 steps 5 to 9). -/
def handshakeTransfers (items : List DiagItem) : List (List Byte) :=
  [[0x21], [0x81], [0xEF]] ++ (diagImages items).map displayTransfer ++ [clearTransfer]

theorem map_handshakeTransfers (items : List DiagItem) :
    (handshakeTransfers items).map (fun seq => (⟨seq, true⟩ : TxRecord)) =
      [⟨[0x21], true⟩, ⟨[0x81], true⟩, ⟨[0xEF], true⟩] ++
        (diagImages items).map (fun d => ⟨0x00 :: d.toList, true⟩) ++ [⟨List.replicate 17 0x00, true⟩] := by
  rw [handshakeTransfers, List.map_append, List.map_append, List.map_map]
  rfl

/-- The Handshake from the oscillator on, each transfer with a success as its answer. -/
theorem reaches_poll_of_oscOn {s : State} {tape : List Bool}
    (htape : s.actuatorTape = List.replicate ((diagImages (diagSequence s)).length + 4) true ++ tape) :
    Reaches (idleAt .oscOn s)
      (idleAt .poll
        { afterSending (handshakeTransfers (diagSequence s)) s with host := { s.host with blinkCtr := 0 } }) := by
  have hsplit : s.actuatorTape =
      [true, true, true] ++ (List.replicate (diagImages (diagSequence s)).length true ++ true :: tape) := by
    rw [htape, List.append_cons, ← List.replicate_succ']
    rfl
  have hdevice := reaches_diag (s := s) hsplit
  have hdiag := reaches_clear (k := 0) (s := afterSending [[0x21], [0x81], [0xEF]] s) _ rfl (congrArg (List.drop 3) hsplit)
  rw [afterSending_afterSending] at hdiag
  have hpoll := reaches_poll (tape := tape)
    (s := afterSending ([[0x21], [0x81], [0xEF]] ++ (diagImages (diagSequence s)).map displayTransfer) s)
    (by simp [afterSending, hsplit])
  rw [afterSending_afterSending] at hpoll
  exact (hdevice.trans hdiag).trans hpoll

/-- Init and the Handshake up to the oscillator write four times to the sensor and make no transfer. -/
theorem reaches_oscOn_of_openSensor {s : State} {identify : Frame} {transport : List Bool} {sensor : List SensorAnswer}
    (hf : s.fatal = false) (hr : s.ropen = false) (hreqs : s.reqs = []) (hp : s.host.pos = .openSensor)
    (htransport : s.transportTape = List.replicate 8 true ++ transport)
    (hsensor : s.sensorTape = identify.toList.map SensorAnswer.byte ++ sensor) :
    Reaches s (idleWith .oscOn transport sensor
      (s.host.sensorLog ++ [⟨[0xF0, 0x55], true⟩, ⟨[0xFB, 0x00], true⟩, ⟨[0xFA, 0x00], true⟩, ⟨[0x00], true⟩])
      (clearOutputs s)) := by
  have hself : idleWith .openSensor (List.replicate 8 true ++ transport)
      (identify.toList.map SensorAnswer.byte ++ sensor) s.host.sensorLog s = s := by
    rw [← htransport, ← hsensor, ← hp]
    exact idleAt_self hf hr hreqs
  have hinit : Reaches s (idleWith .encryptFirst (List.replicate 4 true ++ transport)
      (identify.toList.map SensorAnswer.byte ++ sensor) s.host.sensorLog (clearOutputs s)) := by
    conv_lhs => rw [← hself]
    exact reaches_encryptFirst
  have hread := hinit.trans (reaches_identifyRead.trans (reaches_handshakeAck (by simp)))
  have hack := hread.trans reaches_oscOn
  simp only [List.append_assoc, List.cons_append, List.nil_append] at hack
  exact hack

/-- Settles O52: the moves that present nothing write to the sensor, and the requests after them make one transfer each. -/
theorem handshakeTranscript : Obligations.HandshakeTranscript := by
  intro s identify moreTransport moreActuator moreSensor hf hr hreqs hp htransport hsensor hactuator
  obtain ⟨n, hrun⟩ := (reaches_oscOn_of_openSensor hf hr hreqs hp htransport hsensor).trans
    (reaches_poll_of_oscOn hactuator)
  refine ⟨n, _, hrun, rfl, rfl, rfl, rfl, rfl, rfl, ?_, rfl⟩
  change s.txlog ++ (handshakeTransfers (diagSequence s)).map (fun seq => ⟨seq, true⟩) = _
  simp only [map_handshakeTransfers, List.append_assoc]

end Sys2Proof.Machine
end

section
/-! Faults (60_exceptions.md): the conditions of the sequencing check, every way in which a request or a step faults, and
the halted block. -/

namespace Sys2Proof.Machine

/-! ### The halted block -/

/-- Settles O8: FATAL is the first thing that the step and every request look at. -/
theorem haltedBlockHasNoStep : Obligations.HaltedBlockHasNoStep :=
  fun _ h => ⟨step_halted h, fun i => exec_halted i h⟩

/-! ### The sequencing check -/

theorem sequencingFault_eq_seqNotOpen_iff {need : Need} {ropen : Bool} :
    sequencingFault need ropen = some .seqNotOpen ↔ need = .opened ∧ ropen = false := by
  cases need <;> cases ropen <;> simp

theorem sequencingFault_eq_seqOpen_iff {need : Need} {ropen : Bool} :
    sequencingFault need ropen = some .seqOpen ↔ need = .closed ∧ ropen = true := by
  cases need <;> cases ropen <;> simp

/-! ### How a request faults -/

/-- Past its check a request leaves FATAL and CAUSE alone, unless it is FEED_ERROR or its transfer fails
(60_exceptions.md R106). -/
theorem requestAction_keeps_fault {i : Instr} {s : State} (hi : i ≠ .feedError)
    (ha : emits i = true → actuatorAnswer s = true) :
    (requestAction i s).fatal = s.fatal ∧ (requestAction i s).cause = s.cause := by
  cases he : emits i with
  | true =>
    obtain ⟨-, h⟩ | ⟨hfail, -⟩ := emitting_cases he s
    · simp [h]
    · exact absurd (ha he) (by simp [hfail])
  | false =>
    cases i with
    | oscOn | setBrightness | setBlink | clear | renderCommit | writeRaw => cases he
    | feedError => exact absurd rfl hi
    | feed b =>
      obtain ⟨_, _, _, _, h⟩ := feedByte_frame b s
      simp [requestAction, h]
    | nop | feedEmpty | renderBegin | mergeOff | mergeG | mergeR | mergeY => simp [requestAction]

/-- How a request that has a step ends: with the fault of its sequencing check, as FEED_ERROR, with a failed transfer, or
with FATAL and CAUSE as they were (60_exceptions.md R106, R109). -/
inductive RequestEnds (i : Instr) (s : State) : State → Prop where
  | sequencing (c : Cause) (h : sequencingFault (requestNeed i) s.ropen = some c) : RequestEnds i s (raiseFatal c s)
  | readFailed (h : i = .feedError) : RequestEnds i s (raiseFatal .rxIoError s)
  | transferFailed (he : emits i = true) (h : sequencingFault (requestNeed i) s.ropen = none)
      (ha : actuatorAnswer s = false) :
      RequestEnds i s (raiseFatal .txIoError
        { actuatorDrawn s with txlog := s.txlog ++ [⟨requestTransfer i s, false⟩] })
  | running {t : State} (h : sequencingFault (requestNeed i) s.ropen = none) (hi : i ≠ .feedError)
      (ha : emits i = true → actuatorAnswer s = true) (hfatal : t.fatal = false) (hcause : t.cause = s.cause) :
      RequestEnds i s t

/-- Everything a request that has a step does to FATAL and CAUSE. -/
theorem exec_requestEnds {i : Instr} {s t : State} (h : exec i s = .next t) : RequestEnds i s t := by
  obtain ⟨hf, ⟨c, hc, rfl⟩ | ⟨hq, ht⟩⟩ := exec_cases h
  · exact .sequencing c hc
  by_cases hi : i = .feedError
  · subst hi ht
    exact .readFailed rfl
  by_cases ha : emits i = true → actuatorAnswer s = true
  · obtain ⟨hfatal, hcause⟩ := requestAction_keeps_fault hi (s := clearOutputs s) ha
    exact .running hq hi ha (ht ▸ hfatal.trans hf) (ht ▸ hcause)
  · obtain ⟨he, hfail⟩ : emits i = true ∧ actuatorAnswer s = false := by simpa using ha
    obtain ⟨-, hfailed⟩ := transmits_requestTransfer he hf hq
    cases h.symm.trans (hfailed hfail)
    exact .transferFailed he hq hfail

/-- Settles O44: each way in which a request ends meets one condition of the table and none of the others, and a reserved
byte raises ILLEGAL_REQUEST. -/
theorem causeCodesAndTheirRequests : Obligations.CauseCodesAndTheirRequests := by
  refine ⟨fun i s hf hcause => ?_, fun s op rest hf hreqs hop => ?_⟩
  · obtain ⟨t, h⟩ := everyRequestAnswersANextState i s hf
    refine ⟨t, h, ?_⟩
    rw [← sequencingFault_eq_seqNotOpen_iff, ← sequencingFault_eq_seqOpen_iff]
    cases exec_requestEnds h with
    | sequencing c hc =>
      have hi : i ≠ .feedError := by rintro rfl; cases hc
      obtain rfl | rfl := sequencingFault_cause hc <;> simp [hc, hi, causeCode]
    | readFailed hi =>
      subst hi
      simp [causeCode, emits, requestNeed]
    | transferFailed he hq ha =>
      have hi : i ≠ .feedError := by rintro rfl; cases he
      simp [he, hq, ha, hi, causeCode]
    | running hq hi ha hfatal hkept => simpa [hkept, hcause, hfatal, hq, hi] using ha
  · have hres : inReservedRanges op = true := by simpa [opcodeListed_eq_not_reserved] using hop
    exact ⟨_, reservedOpcodeRaisesIllegalRequest.2 s op rest hf hreqs hres, rfl, rfl⟩

/-- Settles O43: a need that ROPEN does not meet raises its fault, and by the conditions of the two causes no request whose
need is met raises either. -/
theorem sequencingCheckRaisesItsFault : Obligations.SequencingCheckRaisesItsFault := by
  intro i s hf
  refine ⟨fun hneed => raises_seqNotOpen hneed hf, fun hneed => raises_seqOpen hneed hf, fun hmet hcause => ?_⟩
  obtain ⟨t, h, -, -, -, hnotOpen, hopen, -⟩ := causeCodesAndTheirRequests.1 i s hf hcause
  refine ⟨t, h, ?_, ?_⟩
  · rw [Ne, hnotOpen]
    rintro ⟨hneed, hr⟩
    simp [hneed, hr] at hmet
  · rw [Ne, hopen]
    rintro ⟨hneed, hr⟩
    simp [hneed, hr] at hmet

/-! ### How a step faults -/

/-- The byte that the decoder reports as reserved is the first one of the stream, and R54 reserves it. -/
theorem decodeRequest_reserved {bs : List Byte} {op : Byte} (h : decodeRequest bs = .error (.reserved op)) :
    ∃ rest, bs = op :: rest ∧ inReservedRanges op = true := by
  cases bs with
  | nil => cases h
  | cons b rest =>
    have hreads := decodeRequest_readsAs b rest
    generalize decodeRequest (b :: rest) = r at hreads h
    cases hreads with
    | reserved hres => cases h; exact ⟨rest, rfl, hres⟩
    | plain => cases h
    | imm mk => cases rest <;> cases h
    | bytes n mk => unfold decodeBytes at h; split at h <;> cases h

/-- Settles O45: a step that faults is a request that ends in one of its faults, taken from the stream, or a reserved byte; a
move of the host leaves FATAL alone. -/
theorem faultEntryIsPrecise : Obligations.FaultEntryIsPrecise := by
  intro s t hstep hf hfault
  obtain ⟨-, ⟨i, rest, hd, hexec⟩ | ⟨-, hmove⟩ | ⟨op, hd, -⟩⟩ := step_cases hstep
  · refine .inl ⟨i, rest, hd, ?_⟩
    cases exec_requestEnds hexec with
    | sequencing c hc => exact .inr (.inl ⟨c, hc, rfl⟩)
    | readFailed hi => exact .inl ⟨hi, rfl⟩
    | transferFailed he hq ha =>
      refine .inr (.inr ⟨he, hq, ha, ?_⟩)
      rw [actuatorDrawn_withRequests]
      rfl
    | running _ _ _ hfatal => simp [hfault] at hfatal
  · obtain ⟨hkept, -⟩ := hostAction_block s.host.pos s
    obtain ⟨-, rfl⟩ := hostMove_next hmove
    simp [hkept, hf] at hfault
  · obtain ⟨rest, hreqs, hres⟩ := decodeRequest_reserved hd
    have hlisted : opcodeListed op = false := by simp [opcodeListed_eq_not_reserved, hres]
    rw [reservedOpcodeRaisesIllegalRequest.2 s op rest hf hreqs hres] at hstep
    cases hstep
    exact .inr ⟨op, rest, hreqs, hlisted, rfl⟩

end Sys2Proof.Machine
end

section
/-! What must have been sent for an image to be known to be shown (70_reset_and_hazards.md R123, R129): a field of the
actuator becomes known only by a successful transfer that writes it. -/

namespace Sys2Proof.Machine

/-! ### Where a known field comes from -/

theorem ok_of_fieldAfter_eq_some {α : Type} {ok : Bool} {v w : α} (h : fieldAfter ok v = some w) : ok = true := by
  cases ok with
  | true => rfl
  | false => cases h

/-- A command byte leaves the oscillator field alone unless it is OSC_ON (R27). -/
theorem applyCommand_osc_eq_some {b : Byte} {ok v : Bool} {f : ActuatorFields}
    (h : (applyCommand b ok f).osc = some v) : f.osc = some v ∨ ok = true ∧ b = 0x21 := by
  unfold applyCommand at h
  split_ifs at h with hosc hbright hblink
  · exact .inr ⟨ok_of_fieldAfter_eq_some h, hosc⟩
  all_goals exact .inl h

/-- A command byte leaves the display-on flag alone unless it is a blink command with the flag set (R27). -/
theorem applyCommand_dispOn_eq_some {b : Byte} {ok v : Bool} {f : ActuatorFields}
    (h : (applyCommand b ok f).dispOn = some v) : f.dispOn = some v ∨ ok = true ∧ b &&& 0xF9 = 0x81 := by
  unfold applyCommand at h
  split_ifs at h with hosc hbright hblink
  · exact .inl h
  · exact .inl h
  · exact .inr ⟨ok_of_fieldAfter_eq_some h, hblink⟩
  · exact .inl h

/-- A transfer is a command byte, or it leaves every field but the display RAM as it was (R27). -/
theorem applyTransfer_command_or_ram (f : ActuatorFields) (r : TxRecord) :
    (∃ b, r.bytes = [b] ∧ applyTransfer f r = applyCommand b r.ok f) ∨
      ∃ ram, applyTransfer f r = { f with ram := ram } := by
  unfold applyTransfer
  split
  case h_1 b hb => exact .inl ⟨b, hb, rfl⟩
  case h_2 =>
    split
    · exact .inr ⟨_, rfl⟩
    · exact .inr ⟨f.ram, rfl⟩

theorem applyTransfer_osc_eq_some {f : ActuatorFields} {r : TxRecord} {v : Bool}
    (h : (applyTransfer f r).osc = some v) : f.osc = some v ∨ r.ok = true ∧ r.bytes = [0x21] := by
  obtain ⟨b, hbytes, happ⟩ | ⟨ram, happ⟩ := applyTransfer_command_or_ram f r
  · rw [happ] at h
    exact (applyCommand_osc_eq_some h).imp_right fun ⟨hok, hb⟩ => ⟨hok, hb ▸ hbytes⟩
  · rw [happ] at h
    exact .inl h

theorem applyTransfer_dispOn_eq_some {f : ActuatorFields} {r : TxRecord} {v : Bool}
    (h : (applyTransfer f r).dispOn = some v) :
    f.dispOn = some v ∨ r.ok = true ∧ ∃ b : Byte, r.bytes = [b] ∧ b &&& 0xF9 = 0x81 := by
  obtain ⟨b, hbytes, happ⟩ | ⟨ram, happ⟩ := applyTransfer_command_or_ram f r
  · rw [happ] at h
    exact (applyCommand_dispOn_eq_some h).imp_right fun ⟨hok, hb⟩ => ⟨hok, b, hbytes, hb⟩
  · rw [happ] at h
    exact .inl h

/-- A fact about the fields that is not known before any transfer, and becomes known only by a record of one kind, is known
only from a log that holds such a record. -/
theorem exists_mem_of_actuatorFields {known : ActuatorFields → Prop} {kind : TxRecord → Prop}
    (hunknown : ¬known actuatorUnknown) (hstep : ∀ f r, known (applyTransfer f r) → known f ∨ kind r)
    {log : List TxRecord} (h : known (actuatorFields log)) : ∃ r ∈ log, kind r := by
  induction log using List.reverseRecOn with
  | nil => exact absurd h hunknown
  | append_singleton log r ih =>
    rw [actuatorFields_append_one] at h
    obtain hbefore | hkind := hstep _ r h
    · obtain ⟨r', hmem, hr'⟩ := ih hbefore
      exact ⟨r', List.mem_append_left _ hmem, hr'⟩
    · exact ⟨r, by simp, hkind⟩

theorem exists_oscOn_of_osc_known {log : List TxRecord} {v : Bool} (h : (actuatorFields log).osc = some v) :
    ∃ r ∈ log, r.ok = true ∧ r.bytes = [0x21] :=
  exists_mem_of_actuatorFields (known := fun f => f.osc = some v) nofun (fun _ _ => applyTransfer_osc_eq_some) h

theorem exists_blink_of_dispOn_known {log : List TxRecord} {v : Bool} (h : (actuatorFields log).dispOn = some v) :
    ∃ r ∈ log, r.ok = true ∧ ∃ b : Byte, r.bytes = [b] ∧ b &&& 0xF9 = 0x81 :=
  exists_mem_of_actuatorFields (known := fun f => f.dispOn = some v) nofun (fun _ _ => applyTransfer_dispOn_eq_some) h

/-! ### A shown image -/

theorem imageShown_eq_some {log : List TxRecord} {d : Image} (h : imageShown log = some d) :
    (fieldsInEffect log).osc = some true ∧ (fieldsInEffect log).dispOn = some true ∧
      (fieldsInEffect log).ram = some d := by
  unfold imageShown at h
  split_ifs at h with hon
  exact ⟨hon.1, hon.2, h⟩

/-- Settles O49: the oscillator and the display-on flag are known from the part of the log that counts, so a record of that
part made each known. -/
theorem shownImageNeedsOscillatorAndBlink : Obligations.ShownImageNeedsOscillatorAndBlink := by
  intro log d h
  obtain ⟨hosc, hdisp, -⟩ := imageShown_eq_some h
  have hpart : log.dropWhile (fun r => !isOscOn r) ⊆ log := (List.dropWhile_suffix _).subset
  obtain ⟨r, hr, hsent⟩ := exists_oscOn_of_osc_known hosc
  obtain ⟨r', hr', hsent'⟩ := exists_blink_of_dispOn_known hdisp
  exact ⟨⟨r, hpart hr, hsent⟩, ⟨r', hpart hr', hsent'⟩⟩

end Sys2Proof.Machine
end
